-- ==== Sys2Proof/Word.lean ====
section
/-! DEFINITION. The byte, the 32-bit header word, and the block's input type: exactly four bytes. -/

namespace Sys2Proof

/-- One addressable unit of the input buffer, `10_state.md` R15. -/
abbrev Byte := BitVec 8

/-- The header word `W`, `00_scope.md` R7. -/
abbrev Word := BitVec 32

/-- The input of the block, the bytes `B[0]` to `B[3]`: a 4-tuple, so that a short or a long input cannot be
written down (`20_memory.md` R30, R33). -/
structure HeaderBytes where
  b0 : Byte
  b1 : Byte
  b2 : Byte
  b3 : Byte
  deriving DecidableEq, Repr

end Sys2Proof
end

