-- ==== Sys2Proof/Syntax.lean ====
section
/-! DEFINITION. The instruction set: one constructor per row of `spec/opcode_table.json`.  An instruction of this
hardware is one decode outcome, selected by the code byte (`30_encoding.md` R46 to R48). -/

namespace Sys2Proof

/-- The fields that are free in EVERY row and play no part in its selection (`30_encoding.md` R41, R49): version, raw
type, token length and message id. -/
structure HdrFields where
  version : BitVec 2
  typeRaw : BitVec 2
  tokenLength : BitVec 4
  messageId : BitVec 16
  deriving DecidableEq, Repr

/-- One constructor per row.  `f` holds the row's free fields; a row that leaves detail bits free has the 5-bit detail
of the wire as its operand `d` (WellFormed.lean says which details are the row's); a row whose code byte is fixed has
none.  The order is the table's. -/
inductive Instr where
  /-- `METHOD.EMPTY`, R82: `vvttkkkk00000000mmmmmmmmmmmmmmmm` -/
  | methodEmpty (f : HdrFields)
  /-- `METHOD.GET`, R83: `vvttkkkk00000001mmmmmmmmmmmmmmmm` -/
  | methodGet (f : HdrFields)
  /-- `METHOD.POST`, R84: `vvttkkkk00000010mmmmmmmmmmmmmmmm` -/
  | methodPost (f : HdrFields)
  /-- `METHOD.OTHER.3`, R85: `vvttkkkk00000011mmmmmmmmmmmmmmmm` -/
  | methodOther3 (f : HdrFields)
  /-- `METHOD.OTHER.4_7`, R85: `vvttkkkk000001ddmmmmmmmmmmmmmmmm` -/
  | methodOther4To7 (f : HdrFields) (d : BitVec 5)
  /-- `INVALID.METHOD.8_15`, R86: `vvttkkkk00001dddmmmmmmmmmmmmmmmm` -/
  | invalidMethod8To15 (f : HdrFields) (d : BitVec 5)
  /-- `INVALID.METHOD.16_31`, R86: `vvttkkkk0001ddddmmmmmmmmmmmmmmmm` -/
  | invalidMethod16To31 (f : HdrFields) (d : BitVec 5)
  /-- `INVALID.CLASS1`, R107: `vvttkkkk001dddddmmmmmmmmmmmmmmmm` -/
  | invalidClass1 (f : HdrFields) (d : BitVec 5)
  /-- `SUCCESS.CREATED`, R88: `vvttkkkk01000000mmmmmmmmmmmmmmmm` -/
  | successCreated (f : HdrFields)
  /-- `SUCCESS.DELETED`, R89: `vvttkkkk01000001mmmmmmmmmmmmmmmm` -/
  | successDeleted (f : HdrFields)
  /-- `SUCCESS.OTHER.2_3`, R90: `vvttkkkk0100001dmmmmmmmmmmmmmmmm` -/
  | successOther2To3 (f : HdrFields) (d : BitVec 5)
  /-- `SUCCESS.OTHER.4_5`, R90: `vvttkkkk0100010dmmmmmmmmmmmmmmmm` -/
  | successOther4To5 (f : HdrFields) (d : BitVec 5)
  /-- `INVALID.SUCCESS.6_7`, R91: `vvttkkkk0100011dmmmmmmmmmmmmmmmm` -/
  | invalidSuccess6To7 (f : HdrFields) (d : BitVec 5)
  /-- `INVALID.SUCCESS.8_15`, R91: `vvttkkkk01001dddmmmmmmmmmmmmmmmm` -/
  | invalidSuccess8To15 (f : HdrFields) (d : BitVec 5)
  /-- `INVALID.SUCCESS.16_23`, R91: `vvttkkkk01010dddmmmmmmmmmmmmmmmm` -/
  | invalidSuccess16To23 (f : HdrFields) (d : BitVec 5)
  /-- `INVALID.SUCCESS.24_27`, R91: `vvttkkkk010110ddmmmmmmmmmmmmmmmm` -/
  | invalidSuccess24To27 (f : HdrFields) (d : BitVec 5)
  /-- `INVALID.SUCCESS.28_29`, R91: `vvttkkkk0101110dmmmmmmmmmmmmmmmm` -/
  | invalidSuccess28To29 (f : HdrFields) (d : BitVec 5)
  /-- `INVALID.SUCCESS.30`, R91: `vvttkkkk01011110mmmmmmmmmmmmmmmm` -/
  | invalidSuccess30 (f : HdrFields)
  /-- `SUCCESS.OTHER.31`, R90: `vvttkkkk01011111mmmmmmmmmmmmmmmm` -/
  | successOther31 (f : HdrFields)
  /-- `INVALID.CLASS3`, R107: `vvttkkkk011dddddmmmmmmmmmmmmmmmm` -/
  | invalidClass3 (f : HdrFields) (d : BitVec 5)
  /-- `CLIENTERROR.BADREQUEST`, R93: `vvttkkkk10000000mmmmmmmmmmmmmmmm` -/
  | clientErrorBadRequest (f : HdrFields)
  /-- `CLIENTERROR.UNAUTHORIZED`, R94: `vvttkkkk10000001mmmmmmmmmmmmmmmm` -/
  | clientErrorUnauthorized (f : HdrFields)
  /-- `CLIENTERROR.OTHER.2_3`, R95: `vvttkkkk1000001dmmmmmmmmmmmmmmmm` -/
  | clientErrorOther2To3 (f : HdrFields) (d : BitVec 5)
  /-- `CLIENTERROR.OTHER.4_7`, R95: `vvttkkkk100001ddmmmmmmmmmmmmmmmm` -/
  | clientErrorOther4To7 (f : HdrFields) (d : BitVec 5)
  /-- `CLIENTERROR.OTHER.8_9`, R95: `vvttkkkk1000100dmmmmmmmmmmmmmmmm` -/
  | clientErrorOther8To9 (f : HdrFields) (d : BitVec 5)
  /-- `INVALID.CLIENTERROR.10_11`, R96: `vvttkkkk1000101dmmmmmmmmmmmmmmmm` -/
  | invalidClientError10To11 (f : HdrFields) (d : BitVec 5)
  /-- `CLIENTERROR.OTHER.12_13`, R95: `vvttkkkk1000110dmmmmmmmmmmmmmmmm` -/
  | clientErrorOther12To13 (f : HdrFields) (d : BitVec 5)
  /-- `INVALID.CLIENTERROR.14`, R96: `vvttkkkk10001110mmmmmmmmmmmmmmmm` -/
  | invalidClientError14 (f : HdrFields)
  /-- `CLIENTERROR.OTHER.15`, R95: `vvttkkkk10001111mmmmmmmmmmmmmmmm` -/
  | clientErrorOther15 (f : HdrFields)
  /-- `INVALID.CLIENTERROR.16_31`, R96: `vvttkkkk1001ddddmmmmmmmmmmmmmmmm` -/
  | invalidClientError16To31 (f : HdrFields) (d : BitVec 5)
  /-- `SERVERERROR.INTERNAL`, R98: `vvttkkkk10100000mmmmmmmmmmmmmmmm` -/
  | serverErrorInternal (f : HdrFields)
  /-- `SERVERERROR.NOTIMPLEMENTED`, R99: `vvttkkkk10100001mmmmmmmmmmmmmmmm` -/
  | serverErrorNotImplemented (f : HdrFields)
  /-- `SERVERERROR.OTHER.2_3`, R100: `vvttkkkk1010001dmmmmmmmmmmmmmmmm` -/
  | serverErrorOther2To3 (f : HdrFields) (d : BitVec 5)
  /-- `SERVERERROR.OTHER.4_5`, R100: `vvttkkkk1010010dmmmmmmmmmmmmmmmm` -/
  | serverErrorOther4To5 (f : HdrFields) (d : BitVec 5)
  /-- `INVALID.SERVERERROR.6_7`, R101: `vvttkkkk1010011dmmmmmmmmmmmmmmmm` -/
  | invalidServerError6To7 (f : HdrFields) (d : BitVec 5)
  /-- `INVALID.SERVERERROR.8_15`, R101: `vvttkkkk10101dddmmmmmmmmmmmmmmmm` -/
  | invalidServerError8To15 (f : HdrFields) (d : BitVec 5)
  /-- `INVALID.SERVERERROR.16_31`, R101: `vvttkkkk1011ddddmmmmmmmmmmmmmmmm` -/
  | invalidServerError16To31 (f : HdrFields) (d : BitVec 5)
  /-- `INVALID.CLASS6`, R107: `vvttkkkk110dddddmmmmmmmmmmmmmmmm` -/
  | invalidClass6 (f : HdrFields) (d : BitVec 5)
  /-- `SIGNALING.UNASSIGNED`, R103: `vvttkkkk11100000mmmmmmmmmmmmmmmm` -/
  | signalingUnassigned (f : HdrFields)
  /-- `SIGNALING.CSM`, R104: `vvttkkkk11100001mmmmmmmmmmmmmmmm` -/
  | signalingCsm (f : HdrFields)
  /-- `SIGNALING.OTHER.2_3`, R105: `vvttkkkk1110001dmmmmmmmmmmmmmmmm` -/
  | signalingOther2To3 (f : HdrFields) (d : BitVec 5)
  /-- `SIGNALING.OTHER.4_5`, R105: `vvttkkkk1110010dmmmmmmmmmmmmmmmm` -/
  | signalingOther4To5 (f : HdrFields) (d : BitVec 5)
  /-- `INVALID.SIGNALING.6_7`, R106: `vvttkkkk1110011dmmmmmmmmmmmmmmmm` -/
  | invalidSignaling6To7 (f : HdrFields) (d : BitVec 5)
  /-- `INVALID.SIGNALING.8_15`, R106: `vvttkkkk11101dddmmmmmmmmmmmmmmmm` -/
  | invalidSignaling8To15 (f : HdrFields) (d : BitVec 5)
  /-- `INVALID.SIGNALING.16_31`, R106: `vvttkkkk1111ddddmmmmmmmmmmmmmmmm` -/
  | invalidSignaling16To31 (f : HdrFields) (d : BitVec 5)
  deriving DecidableEq, Repr

end Sys2Proof
end

