-- ==== Sys2Proof/Machine/Operands.lean ====
section
/-! DEFINITION. Operand forms: the packing of the header word and the six extraction operations of `40_extract.md`,
each the mask and shift its rule gives.  Every operand of this hardware is a field of the four input bytes. -/

namespace Sys2Proof

/-- `W = B[0] ‖ B[1] ‖ B[2] ‖ B[3]`, byte 0 most significant: `00_scope.md` R7, the input port `hdr_in` of
`10_state.md` R25. -/
def HeaderBytes.toWord (b : HeaderBytes) : Word := b.b0 ++ b.b1 ++ b.b2 ++ b.b3

/-- The four bytes of a header word, the inverse of the packing of `00_scope.md` R7. -/
def HeaderBytes.ofWord (w : Word) : HeaderBytes :=
  { b0 := (w >>> 24).setWidth 8, b1 := (w >>> 16).setWidth 8, b2 := (w >>> 8).setWidth 8, b3 := w.setWidth 8 }

end Sys2Proof

namespace Sys2Proof.Machine

/-- `EXT.VERSION`, R63: `B[0][7:6] = (B[0] >> 6) & 0x3`. -/
def extVersion (b : HeaderBytes) : BitVec 2 := ((b.b0 >>> 6) &&& 0x03#8).setWidth 2

/-- `EXT.TYPE`, R64: `B[0][5:4] = (B[0] >> 4) & 0x3`, bits 5 and 4 only (C1, C2, D11). -/
def extType (b : HeaderBytes) : BitVec 2 := ((b.b0 >>> 4) &&& 0x03#8).setWidth 2

/-- `EXT.TKL`, R65: `B[0][3:0] = B[0] & 0x0F`. -/
def extTkl (b : HeaderBytes) : BitVec 4 := (b.b0 &&& 0x0F#8).setWidth 4

/-- `EXT.CLASS`, R66: `B[1][7:5] = B[1] >> 5`. -/
def extClass (b : HeaderBytes) : BitVec 3 := (b.b1 >>> 5).setWidth 3

/-- The 5 bits the wire supplies, `detail5 = B[1] & 0x1F`, R44. -/
def extDetail5 (b : HeaderBytes) : BitVec 5 := (b.b1 &&& 0x1F#8).setWidth 5

/-- Zero extension of a wire detail to the 8 bits the class tables are defined on, R44 (D9). -/
def zextDetail (d : BitVec 5) : Byte := d.setWidth 8

/-- `EXT.DETAIL`, R67: `zext_8(B[1][4:0])`. -/
def extDetail (b : HeaderBytes) : Byte := zextDetail (extDetail5 b)

/-- `EXT.MID`, R69, R43: `(zext_16(B[2]) << 8) | zext_16(B[3])`. -/
def extMid (b : HeaderBytes) : BitVec 16 := (b.b2.setWidth 16 <<< 8) ||| b.b3.setWidth 16

/-- The fields that are free in every row of the opcode table (`30_encoding.md` R49). -/
def hdrFields (b : HeaderBytes) : HdrFields :=
  { version := extVersion b, typeRaw := extType b, tokenLength := extTkl b, messageId := extMid b }

/-- The raw type as the validator takes it, `zext_8(type_raw)`: `30_encoding.md` R45 (D8). -/
def zextType (t : BitVec 2) : Byte := t.setWidth 8

end Sys2Proof.Machine
end

