-- ==== Sys2Proof/Machine/DataModel.lean ====
section
/-! DEFINITION. The value types of `10_state.md` R17 to R24: what an evaluation takes apart and returns. -/

namespace Sys2Proof.Machine

/-- The closed set of message types, `10_state.md` R18. -/
inductive MsgType where
  | confirmable
  | nonConfirmable
  | acknowledgment
  | reset
  deriving DecidableEq, Repr

/-- Details of class 0, `10_state.md` R20. -/
inductive Method where
  | empty
  | get
  | post
  | other (v : Byte)
  deriving DecidableEq, Repr

/-- Details of class 2, `10_state.md` R20. -/
inductive Success where
  | created
  | deleted
  | other (v : Byte)
  deriving DecidableEq, Repr

/-- Details of class 4, `10_state.md` R20. -/
inductive ClientError where
  | badRequest
  | unauthorized
  | other (v : Byte)
  deriving DecidableEq, Repr

/-- Details of class 5, `10_state.md` R20. -/
inductive ServerError where
  | internal
  | notImplemented
  | other (v : Byte)
  deriving DecidableEq, Repr

/-- Details of class 7, `10_state.md` R20.  `unassigned` is the name of a valid variant (R103). -/
inductive Signaling where
  | unassigned
  | csm
  | other (v : Byte)
  deriving DecidableEq, Repr

/-- The tagged union over the five code classes, `10_state.md` R19. -/
inductive RqCode where
  | method (e : Method)
  | success (e : Success)
  | clientError (e : ClientError)
  | serverError (e : ServerError)
  | signaling (e : Signaling)
  deriving DecidableEq, Repr

/-- The decoded header, `10_state.md` R17. -/
structure Header where
  version : BitVec 2
  type : MsgType
  tokenLength : BitVec 4
  code : RqCode
  messageId : BitVec 16
  deriving DecidableEq, Repr

/-- The two decode errors with the raw values they carry, `10_state.md` R23 (widths: D8, D9). -/
inductive DecodeError where
  | invalidMessageType (t : Byte)
  | invalidCode (cls : BitVec 3) (detail : Byte)
  deriving DecidableEq, Repr

/-- A value, or the error that was raised instead of it: `Ok(..)` and `Err(..)` of `00_scope.md` R8. -/
inductive Decoded (α : Type) where
  | ok (value : α)
  | err (e : DecodeError)
  deriving DecidableEq, Repr

/-- The result of an evaluation, `10_state.md` R24: a `Header` or a `DecodeError`, never both. -/
abbrev Result := Decoded Header

/-- Apply a function to a decoded value; an error stays the same error. -/
def Decoded.map {α β : Type} (f : α → β) : Decoded α → Decoded β
  | .ok a => .ok (f a)
  | .err e => .err e

end Sys2Proof.Machine
end

