-- ==== Sys2Proof/Config.lean ====
section
/-! DEFINITION. The implementation parameters of `00_scope.md` R5.  The field widths stand in the types (2, 2, 4, 3,
5 or 8, 16 bits); the class table is one configuration value (D17), whose TYPE is here and whose instance, the table
of R80, is `Machine.classTable` in Machine/Taxonomy.lean (there a later audit of the literals can change it). -/

namespace Sys2Proof.Config

/-- `HDR_BYTES`: the number of input bytes. -/
def hdrBytes : Nat := 4

/-- One line of the class table of `41_code_taxonomy.md` R80 for a class whose details have the type `ε`. -/
structure ClassEntry (ε : Type) where
  /-- the 3-bit class value, the tag of the union -/
  tag : BitVec 3
  /-- the named details with their numbers -/
  named : List (Byte × ε)
  /-- the greatest value of the contiguous valid range -/
  ceiling : Byte
  /-- the extra allowed isolated values -/
  extra : List Byte
  deriving DecidableEq, Repr

/-- `CLASS_TABLE`: the five lines of R80. -/
structure ClassTable where
  method : ClassEntry Machine.Method
  success : ClassEntry Machine.Success
  clientError : ClassEntry Machine.ClientError
  serverError : ClassEntry Machine.ServerError
  signaling : ClassEntry Machine.Signaling
  deriving DecidableEq, Repr

end Sys2Proof.Config
end

