-- ==== Sys2Proof/Machine/Taxonomy.lean ====
section
/-! DEFINITION. The code-class taxonomy of `41_code_taxonomy.md`: the class table, the general rule of a class, the
five class decoders and CODE.DECODE. -/

namespace Sys2Proof.Machine

/-- The class table of R80, transcribed.  The numbers are the document's and are not to be corrected from memory. -/
def classTable : Config.ClassTable where
  method := { tag := 0, named := [(0, .empty), (1, .get), (2, .post)], ceiling := 7, extra := [] }
  success := { tag := 2, named := [(0, .created), (1, .deleted)], ceiling := 5, extra := [31] }
  clientError := { tag := 4, named := [(0, .badRequest), (1, .unauthorized)], ceiling := 9, extra := [12, 13, 15] }
  serverError := { tag := 5, named := [(0, .internal), (1, .notImplemented)], ceiling := 5, extra := [] }
  signaling := { tag := 7, named := [(0, .unassigned), (1, .csm)], ceiling := 5, extra := [] }

/-- `d ∈ named(K)`, R80. -/
def isNamed {ε : Type} (K : Config.ClassEntry ε) (d : Byte) : Bool := K.named.any (fun p => p.1 == d)

/-- `d ∈ valid(K)`, R80: at most the ceiling, or one of the extra values. -/
def isValid {ε : Type} (K : Config.ClassEntry ε) (d : Byte) : Bool := decide (d ≤ K.ceiling) || K.extra.contains d

/-- `ClassifyDetail(K, d)`, R81; `other` is the class's `Other` constructor. -/
def classifyDetail {ε : Type} (K : Config.ClassEntry ε) (other : Byte → ε) (d : Byte) : Decoded ε :=
  match K.named.lookup d with
  | some e => .ok e
  | none => if isValid K d then .ok (other d) else .err (.invalidCode K.tag d)

/-- `DecMethod`, R87. -/
def decMethod (d : Byte) : Decoded Method := classifyDetail classTable.method .other d

/-- `DecSuccess`, R92. -/
def decSuccess (d : Byte) : Decoded Success := classifyDetail classTable.success .other d

/-- `DecClientError`, R97. -/
def decClientError (d : Byte) : Decoded ClientError := classifyDetail classTable.clientError .other d

/-- `DecServerError`, R102. -/
def decServerError (d : Byte) : Decoded ServerError := classifyDetail classTable.serverError .other d

/-- `DecSignaling`, R108. -/
def decSignaling (d : Byte) : Decoded Signaling := classifyDetail classTable.signaling .other d

/-- `CODE.DECODE`, the function `DecodeCode(c, d)` of R109. -/
def decodeCode (c : BitVec 3) (d : Byte) : Decoded RqCode :=
  if c = classTable.method.tag then (decMethod d).map .method
  else if c = classTable.success.tag then (decSuccess d).map .success
  else if c = classTable.clientError.tag then (decClientError d).map .clientError
  else if c = classTable.serverError.tag then (decServerError d).map .serverError
  else if c = classTable.signaling.tag then (decSignaling d).map .signaling
  else .err (.invalidCode c d)

end Sys2Proof.Machine
end

