-- ==== Sys2Proof/Machine/HeaderDecode.lean ====
section
/-! DEFINITION. TYPE.VALIDATE and the top-level operation DECODE of `40_extract.md`, as pure functions of the four
input bytes. -/

namespace Sys2Proof.Machine

/-- `TYPE.VALIDATE`, the function `MsgTypeOfRaw` of R68 on an 8-bit raw value (D8).  The failing branch is kept, as
the rule requires, although no 4-byte input reaches it. -/
def msgTypeOfRaw (t : Byte) : Decoded MsgType :=
  if t = 0 then .ok .confirmable
  else if t = 1 then .ok .nonConfirmable
  else if t = 2 then .ok .acknowledgment
  else if t = 3 then .ok .reset
  else .err (.invalidMessageType t)

/-- The two validations of DECODE and its return (R75), over a raw type of 8 bits: the type error comes first and
the code is then not examined (R74, `60_exceptions.md` R145, D6). -/
def assemble (version : BitVec 2) (typeRaw : Byte) (tokenLength : BitVec 4) (code : Decoded RqCode)
    (messageId : BitVec 16) : Result :=
  match msgTypeOfRaw typeRaw with
  | .err e => .err e
  | .ok type =>
    match code with
    | .err e => .err e
    | .ok q => .ok { version, type, tokenLength, code := q, messageId }

/-- `DECODE(B[0], B[1], B[2], B[3])`, R75. -/
def decodeHeader (b : HeaderBytes) : Result :=
  assemble (extVersion b) (zextType (extType b)) (extTkl b) (decodeCode (extClass b) (extDetail b)) (extMid b)

end Sys2Proof.Machine
end

