-- ==== Sys2Proof/Machine/WireEncode.lean ====
section
/-! DEFINITION. The encode direction of `42_code_encode.md`, the non-validating constructor and the validity and
canonicity predicates of `44_construct.md`: reference functions beside the block (`00_scope.md` R4, D1). -/

namespace Sys2Proof.Machine

/-- `ENC.DETAIL` on Method, R121. -/
def Method.number : Method → Byte
  | .empty => 0
  | .get => 1
  | .post => 2
  | .other v => v

/-- `ENC.DETAIL` on Success, R121. -/
def Success.number : Success → Byte
  | .created => 0
  | .deleted => 1
  | .other v => v

/-- `ENC.DETAIL` on ClientError, R121. -/
def ClientError.number : ClientError → Byte
  | .badRequest => 0
  | .unauthorized => 1
  | .other v => v

/-- `ENC.DETAIL` on ServerError, R121. -/
def ServerError.number : ServerError → Byte
  | .internal => 0
  | .notImplemented => 1
  | .other v => v

/-- `ENC.DETAIL` on Signaling, R121. -/
def Signaling.number : Signaling → Byte
  | .unassigned => 0
  | .csm => 1
  | .other v => v

/-- `DetailNumber` of the detail of a code, R121: total, and no range is checked (R128). -/
def detailNumber : RqCode → Byte
  | .method e => e.number
  | .success e => e.number
  | .clientError e => e.number
  | .serverError e => e.number
  | .signaling e => e.number

/-- `tag(q)`, the class value of a code, `10_state.md` R19. -/
def codeTag : RqCode → BitVec 3
  | .method _ => classTable.method.tag
  | .success _ => classTable.success.tag
  | .clientError _ => classTable.clientError.tag
  | .serverError _ => classTable.serverError.tag
  | .signaling _ => classTable.signaling.tag

/-- Whether the detail of a code is a named variant (and not `Other(v)`), `10_state.md` R20, R26. -/
def isNamedVariant : RqCode → Bool
  | .method (.other _) => false
  | .success (.other _) => false
  | .clientError (.other _) => false
  | .serverError (.other _) => false
  | .signaling (.other _) => false
  | .method _ => true
  | .success _ => true
  | .clientError _ => true
  | .serverError _ => true
  | .signaling _ => true

/-- `d ∈ valid(class of q)`, R80. -/
def validInClassOf : RqCode → Byte → Bool
  | .method _ => isValid classTable.method
  | .success _ => isValid classTable.success
  | .clientError _ => isValid classTable.clientError
  | .serverError _ => isValid classTable.serverError
  | .signaling _ => isValid classTable.signaling

/-- `d ∈ named(class of q)`, R80. -/
def namedInClassOf : RqCode → Byte → Bool
  | .method _ => isNamed classTable.method
  | .success _ => isNamed classTable.success
  | .clientError _ => isNamed classTable.clientError
  | .serverError _ => isNamed classTable.serverError
  | .signaling _ => isNamed classTable.signaling

/-- `CodeValid(q)`, R136: the number of the detail lies in the class's valid range. -/
abbrev CodeValid (q : RqCode) : Prop := validInClassOf q (detailNumber q) = true

/-- `HeaderValid(h)`, R136. -/
abbrev HeaderValid (h : Header) : Prop := CodeValid h.code

/-- `CodeCanonical(q)`, R137: a named variant, or `Other(v)` with `v` no named value of the class (D13). -/
abbrev CodeCanonical (q : RqCode) : Prop := isNamedVariant q = true ∨ namedInClassOf q (detailNumber q) = false

/-- `HeaderCanonical(h)`, R137. -/
abbrev HeaderCanonical (h : Header) : Prop := CodeCanonical h.code

/-- `ENC.TYPE`, the function `TypeNumber` of R122. -/
def typeNumber : MsgType → BitVec 2
  | .confirmable => 0
  | .nonConfirmable => 1
  | .acknowledgment => 2
  | .reset => 3

/-- `ENC.CODE`, the function `CodeByte` of R123, DEFINED ONLY UNDER `CodeValid q`: the precondition is an argument,
so that nothing can be said of a code that does not meet it, and the function itself tests nothing (R126, R128, D12). -/
def codeByte (q : RqCode) (_valid : CodeValid q) : Byte := ((codeTag q).setWidth 8 <<< 5) ||| detailNumber q

/-- `ENC.HEADER`, the function `ENCODE` of R124, DEFINED ONLY UNDER `HeaderValid h` (R126, D12). -/
def encodeHeader (h : Header) (valid : HeaderValid h) : HeaderBytes where
  b0 := (h.version.setWidth 8 <<< 6) ||| ((typeNumber h.type).setWidth 8 <<< 4) ||| h.tokenLength.setWidth 8
  b1 := codeByte h.code valid
  b2 := (h.messageId >>> 8).setWidth 8
  b3 := (h.messageId &&& 0x00FF#16).setWidth 8

/-- `CONSTRUCT`, R135: no check of any kind, so it cannot fail and it can build an invalid header. -/
def construct (version : BitVec 2) (type : MsgType) (tokenLength : BitVec 4) (code : RqCode)
    (messageId : BitVec 16) : Header :=
  { version, type, tokenLength, code, messageId }

end Sys2Proof.Machine
end

