-- ==== Sys2Proof/Machine/Flags.lean ====
section
/-! DEFINITION. The block has NO flags (`10_state.md` R12): no operation writes one, and none is in State.  What stands
here is every one-bit or status output computation the spec gives: `ok`, `err_kind` and `code_named` of `10_state.md` R26,
`40_extract.md` R77 and `60_exceptions.md` R143. -/

namespace Sys2Proof.Machine

/-- The port `ok`: 1 when the result is `Ok(h)`, 0 when it is `Err(e)`. -/
def okPort : Result → BitVec 1
  | .ok _ => 1
  | .err _ => 0

/-- The port `err_kind`, R143 (D5): 0 no error, 1 `InvalidMessageType`, 2 `InvalidCode`; 3 is never produced. -/
def errKindPort : Result → BitVec 2
  | .ok _ => 0
  | .err (.invalidMessageType _) => 1
  | .err (.invalidCode _ _) => 2

/-- The port `code_named`: 1 when the detail is a named variant, 0 when it is `Other(v)`. -/
def codeNamedPort (q : RqCode) : BitVec 1 := if isNamedVariant q then 1 else 0

end Sys2Proof.Machine
end

