-- ==== Sys2Proof/Machine/Ports.lean ====
section
/-! DEFINITION. The output ports of `10_state.md` R26 (D4) as functions of the result.  A port that carries no meaning
in a result has NO value here (`none`): the spec assigns it none (D7, `93_implementation_defined.md` U4). -/

namespace Sys2Proof.Machine

/-- The Header ports, `version` to `message_id`. -/
structure HeaderPorts where
  version : BitVec 2
  mtype : BitVec 2
  tokenLength : BitVec 4
  codeClass : BitVec 3
  codeDetail : Byte
  codeNamed : BitVec 1
  messageId : BitVec 16
  deriving DecidableEq, Repr

/-- All output ports; `none` is a port without meaning. -/
structure Ports where
  ok : BitVec 1
  errKind : BitVec 2
  header : Option HeaderPorts
  errType : Option Byte
  errClass : Option (BitVec 3)
  errDetail : Option Byte
  deriving DecidableEq, Repr

/-- The Header ports of a header, R26: the wire value of the type, the tag, the number and `code_named`. -/
def headerPorts (h : Header) : HeaderPorts where
  version := h.version
  mtype := typeNumber h.type
  tokenLength := h.tokenLength
  codeClass := codeTag h.code
  codeDetail := detailNumber h.code
  codeNamed := codeNamedPort h.code
  messageId := h.messageId

/-- The header on the Header ports, present only when the result is `Ok(h)`. -/
def headerPortsOf : Result → Option HeaderPorts
  | .ok h => some (headerPorts h)
  | .err _ => none

/-- `err_type`, which has a meaning only when `err_kind = 1`. -/
def errTypePort : Result → Option Byte
  | .err (.invalidMessageType t) => some t
  | _ => none

/-- `err_class`, which has a meaning only when `err_kind = 2`. -/
def errClassPort : Result → Option (BitVec 3)
  | .err (.invalidCode c _) => some c
  | _ => none

/-- `err_detail`, which has a meaning only when `err_kind = 2`. -/
def errDetailPort : Result → Option Byte
  | .err (.invalidCode _ d) => some d
  | _ => none

/-- The ports of a result, R26, R77. -/
def portsOf (r : Result) : Ports where
  ok := okPort r
  errKind := errKindPort r
  header := headerPortsOf r
  errType := errTypePort r
  errClass := errClassPort r
  errDetail := errDetailPort r

/-- A consumer's reading of the triple (`code_class`, `code_named`, `code_detail`), R27: the class selects the
enumeration; with `code_named = 1` the number selects the named variant, with 0 it is the argument of `Other`.
`none` where no code is carried by the triple. -/
def codeOfPorts (cls : BitVec 3) (named : BitVec 1) (detail : Byte) : Option RqCode :=
  if named = 1 then
    if cls = classTable.method.tag then (classTable.method.named.lookup detail).map .method
    else if cls = classTable.success.tag then (classTable.success.named.lookup detail).map .success
    else if cls = classTable.clientError.tag then (classTable.clientError.named.lookup detail).map .clientError
    else if cls = classTable.serverError.tag then (classTable.serverError.named.lookup detail).map .serverError
    else if cls = classTable.signaling.tag then (classTable.signaling.named.lookup detail).map .signaling
    else none
  else
    if cls = classTable.method.tag then some (.method (.other detail))
    else if cls = classTable.success.tag then some (.success (.other detail))
    else if cls = classTable.clientError.tag then some (.clientError (.other detail))
    else if cls = classTable.serverError.tag then some (.serverError (.other detail))
    else if cls = classTable.signaling.tag then some (.signaling (.other detail))
    else none

end Sys2Proof.Machine
end

