-- ==== Sys2Proof/WellFormed.lean ====
section
/-! DEFINITION. Which instructions are well formed: the detail operand lies in the range that the row's free bits
leave (`30_encoding.md` R48, the last part of a range row's mnemonic). -/

namespace Sys2Proof

/-- `lo ≤ d ≤ hi`, both bounds inclusive. -/
def inRange (lo hi d : BitVec 5) : Bool := decide (lo ≤ d) && decide (d ≤ hi)

/-- The check of one instruction; a row without a detail operand has nothing to check, and every detail belongs to the
rows of the invalid classes (R107). -/
def wellFormed : Instr → Bool
  | .methodEmpty _ => true
  | .methodGet _ => true
  | .methodPost _ => true
  | .methodOther3 _ => true
  | .methodOther4To7 _ d => inRange 4 7 d
  | .invalidMethod8To15 _ d => inRange 8 15 d
  | .invalidMethod16To31 _ d => inRange 16 31 d
  | .invalidClass1 _ _ => true
  | .successCreated _ => true
  | .successDeleted _ => true
  | .successOther2To3 _ d => inRange 2 3 d
  | .successOther4To5 _ d => inRange 4 5 d
  | .invalidSuccess6To7 _ d => inRange 6 7 d
  | .invalidSuccess8To15 _ d => inRange 8 15 d
  | .invalidSuccess16To23 _ d => inRange 16 23 d
  | .invalidSuccess24To27 _ d => inRange 24 27 d
  | .invalidSuccess28To29 _ d => inRange 28 29 d
  | .invalidSuccess30 _ => true
  | .successOther31 _ => true
  | .invalidClass3 _ _ => true
  | .clientErrorBadRequest _ => true
  | .clientErrorUnauthorized _ => true
  | .clientErrorOther2To3 _ d => inRange 2 3 d
  | .clientErrorOther4To7 _ d => inRange 4 7 d
  | .clientErrorOther8To9 _ d => inRange 8 9 d
  | .invalidClientError10To11 _ d => inRange 10 11 d
  | .clientErrorOther12To13 _ d => inRange 12 13 d
  | .invalidClientError14 _ => true
  | .clientErrorOther15 _ => true
  | .invalidClientError16To31 _ d => inRange 16 31 d
  | .serverErrorInternal _ => true
  | .serverErrorNotImplemented _ => true
  | .serverErrorOther2To3 _ d => inRange 2 3 d
  | .serverErrorOther4To5 _ d => inRange 4 5 d
  | .invalidServerError6To7 _ d => inRange 6 7 d
  | .invalidServerError8To15 _ d => inRange 8 15 d
  | .invalidServerError16To31 _ d => inRange 16 31 d
  | .invalidClass6 _ _ => true
  | .signalingUnassigned _ => true
  | .signalingCsm _ => true
  | .signalingOther2To3 _ d => inRange 2 3 d
  | .signalingOther4To5 _ d => inRange 4 5 d
  | .invalidSignaling6To7 _ d => inRange 6 7 d
  | .invalidSignaling8To15 _ d => inRange 8 15 d
  | .invalidSignaling16To31 _ d => inRange 16 31 d

/-- The instruction is well formed. -/
abbrev WellFormed (i : Instr) : Prop := wellFormed i = true

end Sys2Proof
end

