-- ==== Sys2Proof/Decode.lean ====
section
/-! DEFINITION. The decoder, from the match and mask values of `spec/opcode_table.json` over the word `W`
(`30_encoding.md` R48), total on any list of bytes; and after it the encoder, from the table's encoding strings. -/

namespace Sys2Proof

/-- One row of the opcode table: a word `W` belongs to it when `(W & mask) == pattern`.  `build` is the row's
instruction for given free fields and a given detail (which a row with a fixed code byte does not use). -/
structure OpRow where
  mnemonic : String
  pattern : Word
  mask : Word
  build : HdrFields → BitVec 5 → Instr

/-- `(W & mask) == match`, R48. -/
def OpRow.accepts (r : OpRow) (w : Word) : Bool := (w &&& r.mask) == r.pattern

/-- The rows of class 0, in the table's order. -/
def rowsClass0 : List OpRow := [
  { mnemonic := "METHOD.EMPTY", pattern := 0x00000000, mask := 0x00FF0000, build := fun f _ => .methodEmpty f },
  { mnemonic := "METHOD.GET", pattern := 0x00010000, mask := 0x00FF0000, build := fun f _ => .methodGet f },
  { mnemonic := "METHOD.POST", pattern := 0x00020000, mask := 0x00FF0000, build := fun f _ => .methodPost f },
  { mnemonic := "METHOD.OTHER.3", pattern := 0x00030000, mask := 0x00FF0000, build := fun f _ => .methodOther3 f },
  { mnemonic := "METHOD.OTHER.4_7", pattern := 0x00040000, mask := 0x00FC0000, build := fun f d => .methodOther4To7 f d },
  { mnemonic := "INVALID.METHOD.8_15", pattern := 0x00080000, mask := 0x00F80000, build := fun f d => .invalidMethod8To15 f d },
  { mnemonic := "INVALID.METHOD.16_31", pattern := 0x00100000, mask := 0x00F00000, build := fun f d => .invalidMethod16To31 f d } ]

/-- The rows of class 1, in the table's order. -/
def rowsClass1 : List OpRow := [
  { mnemonic := "INVALID.CLASS1", pattern := 0x00200000, mask := 0x00E00000, build := fun f d => .invalidClass1 f d } ]

/-- The rows of class 2, in the table's order. -/
def rowsClass2 : List OpRow := [
  { mnemonic := "SUCCESS.CREATED", pattern := 0x00400000, mask := 0x00FF0000, build := fun f _ => .successCreated f },
  { mnemonic := "SUCCESS.DELETED", pattern := 0x00410000, mask := 0x00FF0000, build := fun f _ => .successDeleted f },
  { mnemonic := "SUCCESS.OTHER.2_3", pattern := 0x00420000, mask := 0x00FE0000, build := fun f d => .successOther2To3 f d },
  { mnemonic := "SUCCESS.OTHER.4_5", pattern := 0x00440000, mask := 0x00FE0000, build := fun f d => .successOther4To5 f d },
  { mnemonic := "INVALID.SUCCESS.6_7", pattern := 0x00460000, mask := 0x00FE0000, build := fun f d => .invalidSuccess6To7 f d },
  { mnemonic := "INVALID.SUCCESS.8_15", pattern := 0x00480000, mask := 0x00F80000, build := fun f d => .invalidSuccess8To15 f d },
  { mnemonic := "INVALID.SUCCESS.16_23", pattern := 0x00500000, mask := 0x00F80000, build := fun f d => .invalidSuccess16To23 f d },
  { mnemonic := "INVALID.SUCCESS.24_27", pattern := 0x00580000, mask := 0x00FC0000, build := fun f d => .invalidSuccess24To27 f d },
  { mnemonic := "INVALID.SUCCESS.28_29", pattern := 0x005C0000, mask := 0x00FE0000, build := fun f d => .invalidSuccess28To29 f d },
  { mnemonic := "INVALID.SUCCESS.30", pattern := 0x005E0000, mask := 0x00FF0000, build := fun f _ => .invalidSuccess30 f },
  { mnemonic := "SUCCESS.OTHER.31", pattern := 0x005F0000, mask := 0x00FF0000, build := fun f _ => .successOther31 f } ]

/-- The rows of class 3, in the table's order. -/
def rowsClass3 : List OpRow := [
  { mnemonic := "INVALID.CLASS3", pattern := 0x00600000, mask := 0x00E00000, build := fun f d => .invalidClass3 f d } ]

/-- The rows of class 4, in the table's order. -/
def rowsClass4 : List OpRow := [
  { mnemonic := "CLIENTERROR.BADREQUEST", pattern := 0x00800000, mask := 0x00FF0000, build := fun f _ => .clientErrorBadRequest f },
  { mnemonic := "CLIENTERROR.UNAUTHORIZED", pattern := 0x00810000, mask := 0x00FF0000, build := fun f _ => .clientErrorUnauthorized f },
  { mnemonic := "CLIENTERROR.OTHER.2_3", pattern := 0x00820000, mask := 0x00FE0000, build := fun f d => .clientErrorOther2To3 f d },
  { mnemonic := "CLIENTERROR.OTHER.4_7", pattern := 0x00840000, mask := 0x00FC0000, build := fun f d => .clientErrorOther4To7 f d },
  { mnemonic := "CLIENTERROR.OTHER.8_9", pattern := 0x00880000, mask := 0x00FE0000, build := fun f d => .clientErrorOther8To9 f d },
  { mnemonic := "INVALID.CLIENTERROR.10_11", pattern := 0x008A0000, mask := 0x00FE0000, build := fun f d => .invalidClientError10To11 f d },
  { mnemonic := "CLIENTERROR.OTHER.12_13", pattern := 0x008C0000, mask := 0x00FE0000, build := fun f d => .clientErrorOther12To13 f d },
  { mnemonic := "INVALID.CLIENTERROR.14", pattern := 0x008E0000, mask := 0x00FF0000, build := fun f _ => .invalidClientError14 f },
  { mnemonic := "CLIENTERROR.OTHER.15", pattern := 0x008F0000, mask := 0x00FF0000, build := fun f _ => .clientErrorOther15 f },
  { mnemonic := "INVALID.CLIENTERROR.16_31", pattern := 0x00900000, mask := 0x00F00000, build := fun f d => .invalidClientError16To31 f d } ]

/-- The rows of class 5, in the table's order. -/
def rowsClass5 : List OpRow := [
  { mnemonic := "SERVERERROR.INTERNAL", pattern := 0x00A00000, mask := 0x00FF0000, build := fun f _ => .serverErrorInternal f },
  { mnemonic := "SERVERERROR.NOTIMPLEMENTED", pattern := 0x00A10000, mask := 0x00FF0000, build := fun f _ => .serverErrorNotImplemented f },
  { mnemonic := "SERVERERROR.OTHER.2_3", pattern := 0x00A20000, mask := 0x00FE0000, build := fun f d => .serverErrorOther2To3 f d },
  { mnemonic := "SERVERERROR.OTHER.4_5", pattern := 0x00A40000, mask := 0x00FE0000, build := fun f d => .serverErrorOther4To5 f d },
  { mnemonic := "INVALID.SERVERERROR.6_7", pattern := 0x00A60000, mask := 0x00FE0000, build := fun f d => .invalidServerError6To7 f d },
  { mnemonic := "INVALID.SERVERERROR.8_15", pattern := 0x00A80000, mask := 0x00F80000, build := fun f d => .invalidServerError8To15 f d },
  { mnemonic := "INVALID.SERVERERROR.16_31", pattern := 0x00B00000, mask := 0x00F00000, build := fun f d => .invalidServerError16To31 f d } ]

/-- The rows of class 6, in the table's order. -/
def rowsClass6 : List OpRow := [
  { mnemonic := "INVALID.CLASS6", pattern := 0x00C00000, mask := 0x00E00000, build := fun f d => .invalidClass6 f d } ]

/-- The rows of class 7, in the table's order. -/
def rowsClass7 : List OpRow := [
  { mnemonic := "SIGNALING.UNASSIGNED", pattern := 0x00E00000, mask := 0x00FF0000, build := fun f _ => .signalingUnassigned f },
  { mnemonic := "SIGNALING.CSM", pattern := 0x00E10000, mask := 0x00FF0000, build := fun f _ => .signalingCsm f },
  { mnemonic := "SIGNALING.OTHER.2_3", pattern := 0x00E20000, mask := 0x00FE0000, build := fun f d => .signalingOther2To3 f d },
  { mnemonic := "SIGNALING.OTHER.4_5", pattern := 0x00E40000, mask := 0x00FE0000, build := fun f d => .signalingOther4To5 f d },
  { mnemonic := "INVALID.SIGNALING.6_7", pattern := 0x00E60000, mask := 0x00FE0000, build := fun f d => .invalidSignaling6To7 f d },
  { mnemonic := "INVALID.SIGNALING.8_15", pattern := 0x00E80000, mask := 0x00F80000, build := fun f d => .invalidSignaling8To15 f d },
  { mnemonic := "INVALID.SIGNALING.16_31", pattern := 0x00F00000, mask := 0x00F00000, build := fun f d => .invalidSignaling16To31 f d } ]

/-- `opcode_table.json`, 45 rows, in the table's order. -/
def opTable : List OpRow :=
  rowsClass0 ++ rowsClass1 ++ rowsClass2 ++ rowsClass3 ++ rowsClass4 ++ rowsClass5 ++ rowsClass6 ++ rowsClass7

/-- The row a header word belongs to. -/
def rowOf (w : Word) : Option OpRow := opTable.find? (fun r => r.accepts w)

/-- Why a sequence of bytes is no instruction. -/
inductive Reject where
  /-- Raised by `decodeBytes` on an input that is not exactly four bytes (`20_memory.md` R33: it is no input of the
  block).  Safe: nothing is decoded. -/
  | notFourBytes (length : Nat)
  /-- Raised by `decodeInstr` when no row of the table matches the code byte.  The rows partition the 256 code bytes
  (R48), so no input leads here.  Safe. -/
  | noRow (codeByte : Byte)
  deriving DecidableEq, Repr

/-- The instruction of a complete header: the row of its word, with the free fields and the detail of the word. -/
def decodeInstr (b : HeaderBytes) : Except Reject Instr :=
  match rowOf b.toWord with
  | some r => .ok (r.build (Machine.hdrFields b) (Machine.extDetail5 b))
  | none => .error (.noRow b.b1)

/-- The decoder on any list of bytes, byte 0 first. -/
def decodeBytes : List Byte → Except Reject Instr
  | [b0, b1, b2, b3] => decodeInstr { b0, b1, b2, b3 }
  | bytes => .error (.notFourBytes bytes.length)

/-- The host's reading of one table word: the low `nbits` bits of `w`, every bit above them 0, laid out as the four
bytes of `W` (byte 0 most significant) and given to the decoder. -/
def tableBytes (nbits w : Nat) : HeaderBytes := HeaderBytes.ofWord (BitVec.ofNat 32 (w % 2 ^ nbits))

/-- The instruction the decoder reads from a table word. -/
def decodeTableWord (nbits w : Nat) : Option Instr :=
  match decodeInstr (tableBytes nbits w) with
  | .ok i => some i
  | .error _ => none

/-- The free fields of an instruction. -/
def instrFields : Instr → HdrFields
  | .methodEmpty f => f
  | .methodGet f => f
  | .methodPost f => f
  | .methodOther3 f => f
  | .methodOther4To7 f _ => f
  | .invalidMethod8To15 f _ => f
  | .invalidMethod16To31 f _ => f
  | .invalidClass1 f _ => f
  | .successCreated f => f
  | .successDeleted f => f
  | .successOther2To3 f _ => f
  | .successOther4To5 f _ => f
  | .invalidSuccess6To7 f _ => f
  | .invalidSuccess8To15 f _ => f
  | .invalidSuccess16To23 f _ => f
  | .invalidSuccess24To27 f _ => f
  | .invalidSuccess28To29 f _ => f
  | .invalidSuccess30 f => f
  | .successOther31 f => f
  | .invalidClass3 f _ => f
  | .clientErrorBadRequest f => f
  | .clientErrorUnauthorized f => f
  | .clientErrorOther2To3 f _ => f
  | .clientErrorOther4To7 f _ => f
  | .clientErrorOther8To9 f _ => f
  | .invalidClientError10To11 f _ => f
  | .clientErrorOther12To13 f _ => f
  | .invalidClientError14 f => f
  | .clientErrorOther15 f => f
  | .invalidClientError16To31 f _ => f
  | .serverErrorInternal f => f
  | .serverErrorNotImplemented f => f
  | .serverErrorOther2To3 f _ => f
  | .serverErrorOther4To5 f _ => f
  | .invalidServerError6To7 f _ => f
  | .invalidServerError8To15 f _ => f
  | .invalidServerError16To31 f _ => f
  | .invalidClass6 f _ => f
  | .signalingUnassigned f => f
  | .signalingCsm f => f
  | .signalingOther2To3 f _ => f
  | .signalingOther4To5 f _ => f
  | .invalidSignaling6To7 f _ => f
  | .invalidSignaling8To15 f _ => f
  | .invalidSignaling16To31 f _ => f

/-- The code byte of an instruction, bits `W[23:16]` of the row's encoding string: three class bits and five detail
bits. -/
def instrCodeByte : Instr → Byte
  | .methodEmpty _ => 0b000#3 ++ 0b00000#5
  | .methodGet _ => 0b000#3 ++ 0b00001#5
  | .methodPost _ => 0b000#3 ++ 0b00010#5
  | .methodOther3 _ => 0b000#3 ++ 0b00011#5
  | .methodOther4To7 _ d => 0b000#3 ++ d
  | .invalidMethod8To15 _ d => 0b000#3 ++ d
  | .invalidMethod16To31 _ d => 0b000#3 ++ d
  | .invalidClass1 _ d => 0b001#3 ++ d
  | .successCreated _ => 0b010#3 ++ 0b00000#5
  | .successDeleted _ => 0b010#3 ++ 0b00001#5
  | .successOther2To3 _ d => 0b010#3 ++ d
  | .successOther4To5 _ d => 0b010#3 ++ d
  | .invalidSuccess6To7 _ d => 0b010#3 ++ d
  | .invalidSuccess8To15 _ d => 0b010#3 ++ d
  | .invalidSuccess16To23 _ d => 0b010#3 ++ d
  | .invalidSuccess24To27 _ d => 0b010#3 ++ d
  | .invalidSuccess28To29 _ d => 0b010#3 ++ d
  | .invalidSuccess30 _ => 0b010#3 ++ 0b11110#5
  | .successOther31 _ => 0b010#3 ++ 0b11111#5
  | .invalidClass3 _ d => 0b011#3 ++ d
  | .clientErrorBadRequest _ => 0b100#3 ++ 0b00000#5
  | .clientErrorUnauthorized _ => 0b100#3 ++ 0b00001#5
  | .clientErrorOther2To3 _ d => 0b100#3 ++ d
  | .clientErrorOther4To7 _ d => 0b100#3 ++ d
  | .clientErrorOther8To9 _ d => 0b100#3 ++ d
  | .invalidClientError10To11 _ d => 0b100#3 ++ d
  | .clientErrorOther12To13 _ d => 0b100#3 ++ d
  | .invalidClientError14 _ => 0b100#3 ++ 0b01110#5
  | .clientErrorOther15 _ => 0b100#3 ++ 0b01111#5
  | .invalidClientError16To31 _ d => 0b100#3 ++ d
  | .serverErrorInternal _ => 0b101#3 ++ 0b00000#5
  | .serverErrorNotImplemented _ => 0b101#3 ++ 0b00001#5
  | .serverErrorOther2To3 _ d => 0b101#3 ++ d
  | .serverErrorOther4To5 _ d => 0b101#3 ++ d
  | .invalidServerError6To7 _ d => 0b101#3 ++ d
  | .invalidServerError8To15 _ d => 0b101#3 ++ d
  | .invalidServerError16To31 _ d => 0b101#3 ++ d
  | .invalidClass6 _ d => 0b110#3 ++ d
  | .signalingUnassigned _ => 0b111#3 ++ 0b00000#5
  | .signalingCsm _ => 0b111#3 ++ 0b00001#5
  | .signalingOther2To3 _ d => 0b111#3 ++ d
  | .signalingOther4To5 _ d => 0b111#3 ++ d
  | .invalidSignaling6To7 _ d => 0b111#3 ++ d
  | .invalidSignaling8To15 _ d => 0b111#3 ++ d
  | .invalidSignaling16To31 _ d => 0b111#3 ++ d

/-- The table's mnemonic of an instruction. -/
def instrMnemonic : Instr → String
  | .methodEmpty _ => "METHOD.EMPTY"
  | .methodGet _ => "METHOD.GET"
  | .methodPost _ => "METHOD.POST"
  | .methodOther3 _ => "METHOD.OTHER.3"
  | .methodOther4To7 _ _ => "METHOD.OTHER.4_7"
  | .invalidMethod8To15 _ _ => "INVALID.METHOD.8_15"
  | .invalidMethod16To31 _ _ => "INVALID.METHOD.16_31"
  | .invalidClass1 _ _ => "INVALID.CLASS1"
  | .successCreated _ => "SUCCESS.CREATED"
  | .successDeleted _ => "SUCCESS.DELETED"
  | .successOther2To3 _ _ => "SUCCESS.OTHER.2_3"
  | .successOther4To5 _ _ => "SUCCESS.OTHER.4_5"
  | .invalidSuccess6To7 _ _ => "INVALID.SUCCESS.6_7"
  | .invalidSuccess8To15 _ _ => "INVALID.SUCCESS.8_15"
  | .invalidSuccess16To23 _ _ => "INVALID.SUCCESS.16_23"
  | .invalidSuccess24To27 _ _ => "INVALID.SUCCESS.24_27"
  | .invalidSuccess28To29 _ _ => "INVALID.SUCCESS.28_29"
  | .invalidSuccess30 _ => "INVALID.SUCCESS.30"
  | .successOther31 _ => "SUCCESS.OTHER.31"
  | .invalidClass3 _ _ => "INVALID.CLASS3"
  | .clientErrorBadRequest _ => "CLIENTERROR.BADREQUEST"
  | .clientErrorUnauthorized _ => "CLIENTERROR.UNAUTHORIZED"
  | .clientErrorOther2To3 _ _ => "CLIENTERROR.OTHER.2_3"
  | .clientErrorOther4To7 _ _ => "CLIENTERROR.OTHER.4_7"
  | .clientErrorOther8To9 _ _ => "CLIENTERROR.OTHER.8_9"
  | .invalidClientError10To11 _ _ => "INVALID.CLIENTERROR.10_11"
  | .clientErrorOther12To13 _ _ => "CLIENTERROR.OTHER.12_13"
  | .invalidClientError14 _ => "INVALID.CLIENTERROR.14"
  | .clientErrorOther15 _ => "CLIENTERROR.OTHER.15"
  | .invalidClientError16To31 _ _ => "INVALID.CLIENTERROR.16_31"
  | .serverErrorInternal _ => "SERVERERROR.INTERNAL"
  | .serverErrorNotImplemented _ => "SERVERERROR.NOTIMPLEMENTED"
  | .serverErrorOther2To3 _ _ => "SERVERERROR.OTHER.2_3"
  | .serverErrorOther4To5 _ _ => "SERVERERROR.OTHER.4_5"
  | .invalidServerError6To7 _ _ => "INVALID.SERVERERROR.6_7"
  | .invalidServerError8To15 _ _ => "INVALID.SERVERERROR.8_15"
  | .invalidServerError16To31 _ _ => "INVALID.SERVERERROR.16_31"
  | .invalidClass6 _ _ => "INVALID.CLASS6"
  | .signalingUnassigned _ => "SIGNALING.UNASSIGNED"
  | .signalingCsm _ => "SIGNALING.CSM"
  | .signalingOther2To3 _ _ => "SIGNALING.OTHER.2_3"
  | .signalingOther4To5 _ _ => "SIGNALING.OTHER.4_5"
  | .invalidSignaling6To7 _ _ => "INVALID.SIGNALING.6_7"
  | .invalidSignaling8To15 _ _ => "INVALID.SIGNALING.8_15"
  | .invalidSignaling16To31 _ _ => "INVALID.SIGNALING.16_31"

/-- The four bytes of an instruction, `vvttkkkk` then the code byte then `mmmmmmmm mmmmmmmm` (HDR4, R41). -/
def encode (i : Instr) : HeaderBytes where
  b0 := (instrFields i).version ++ (instrFields i).typeRaw ++ (instrFields i).tokenLength
  b1 := instrCodeByte i
  b2 := (instrFields i).messageId.extractLsb' 8 8
  b3 := (instrFields i).messageId.extractLsb' 0 8

end Sys2Proof
end

