-- ==== Sys2Proof/Machine/State.lean ====
section
/-! DEFINITION. The machine's state, its stops and its reset.  The block stores nothing (`10_state.md` R10 to R16); what a
step reads is the input buffer, and what it leaves is the result of the evaluation. -/

namespace Sys2Proof.Machine

/-- The contents of the input buffer as (offset, byte) pairs.  Canonical form, `Memory.wf` in Ops.lean: offsets rising,
all below 4, and no byte equal to what an unlisted offset reads as. -/
abbrev Memory := List Host.Cell

structure State where
  /-- the input buffer `B[0..3]`, the only address space (`10_state.md` R15, `20_memory.md` R30, R35) -/
  mem : Memory
  /-- what the last evaluation returned (`10_state.md` R24); `none` when no evaluation has returned yet.  It is the
  model's place for the returned value: no evaluation reads it (`10_state.md` R12) -/
  result : Option Result
  deriving DecidableEq, Repr

/-- Why a step could stop with a fault. -/
inductive Fault where
  /-- Raised by `memRead` at an offset outside 0..3, which does not exist (`00_scope.md` R8, `20_memory.md` R30, R35).
  Safe.  An evaluation reads the offsets 0 to 3 only, so no step ends in it. -/
  | noSuchOffset (offset : Nat)
  deriving DecidableEq, Repr

/-- Why a step could be refused. -/
inductive Refusal where
  /-- Raised by `exec`'s arm for an instruction that has no meaning in the model.  Safe.  There is no such arm. -/
  | notModelled (mnemonic : String)
  /-- Raised by `step` when the decoder rejects the input.  Safe.  The opcode table covers every code byte
  (`30_encoding.md` R48), so no step ends in it. -/
  | undecodable (why : Reject)
  deriving DecidableEq, Repr

/-- The machine before any evaluation.  The spec has no reset and gives no reset value (`10_state.md` R28,
`70_reset_and_hazards.md` R160, R161).  DESIGN CHOICE: nothing is listed in the input buffer, so it reads as four zero
bytes until the host presents a header (entry 2, unsafe), and no evaluation has returned a result (entry 1, safe). -/
def State.reset : State where
  mem := []
  result := none

end Sys2Proof.Machine
end

