-- ==== Sys2Proof/Machine/Ops.lean ====
section
/-! DEFINITION. The named operations over the input buffer and the result: the reads of an evaluation, the host's
presentation of a header, the return of a header, and the raising of a decode error. -/

namespace Sys2Proof.Machine

/-- What an unlisted offset of the input buffer reads as.  DESIGN CHOICE (entry 2, unsafe): the spec gives the input no
value of its own. -/
def Memory.unlisted : Byte := 0

/-- The byte at an offset. -/
def Memory.byteAt (m : Memory) (offset : Nat) : Byte :=
  match m.lookup offset with
  | some v => v
  | none => Memory.unlisted

/-- The canonical form of the input buffer. -/
abbrev Memory.wf (m : Memory) : Prop :=
  m.Pairwise (fun c c' => c.1 < c'.1) ∧ ∀ c ∈ m, c.1 < Config.hdrBytes ∧ c.2 ≠ Memory.unlisted

/-- The input buffer that holds these four bytes, in canonical form. -/
def Memory.ofBytes (b : HeaderBytes) : Memory :=
  [(0, b.b0), (1, b.b1), (2, b.b2), (3, b.b3)].filter (fun c => c.2 != Memory.unlisted)

/-- `MemRead(offset, 1) = B[offset]`, defined for the offsets 0 to 3 and for no other (`20_memory.md` R30).  A read has
no side effect (R34). -/
def memRead (offset : Nat) (s : State) : Except Fault Byte :=
  if offset < Config.hdrBytes then .ok (s.mem.byteAt offset) else .error (.noSuchOffset offset)

/-- The four bytes in the input buffer. -/
def State.inputBytes (s : State) : HeaderBytes where
  b0 := s.mem.byteAt 0
  b1 := s.mem.byteAt 1
  b2 := s.mem.byteAt 2
  b3 := s.mem.byteAt 3

/-- The reads of an evaluation: every byte of the buffer, once (`20_memory.md` R30, `40_extract.md` R62). -/
def fetch (s : State) : Except Fault HeaderBytes := do
  let b0 ← memRead 0 s
  let b1 ← memRead 1 s
  let b2 ← memRead 2 s
  let b3 ← memRead 3 s
  return { b0, b1, b2, b3 }

/-- The input port `hdr_in[31:0]`, `10_state.md` R25. -/
def State.hdrIn (s : State) : Word := s.inputBytes.toWord

/-- The output ports: at all times the function of the input, whatever was evaluated before (`10_state.md` R26, R28,
`70_reset_and_hazards.md` R160). -/
def State.ports (s : State) : Ports := portsOf (decodeHeader s.inputBytes)

/-- The HOST presents a complete header: all four bytes of one header at once, between evaluations
(`60_exceptions.md` R153, `70_reset_and_hazards.md` R163).  The block itself writes no memory (`20_memory.md` R34). -/
def State.present (s : State) (b : HeaderBytes) : State := { s with mem := Memory.ofBytes b }

/-- An evaluation returns `Ok(h)`. -/
def returnHeader (h : Header) (s : State) : State := { s with result := some (.ok h) }

/-- TAKING AN EXCEPTION, `60_exceptions.md` R146: the evaluation's whole result is `Err(e)`, with no Header, and nothing
else happens: nothing is saved, no mode changes, there is no vector and no handler.  There is no return from it
(R148). -/
def raiseError (e : DecodeError) (s : State) : State := { s with result := some (.err e) }

/-- The end of every evaluation: the validations of DECODE on the row's free fields and the row's code outcome, then
the return of a Header or the raising of the error (R75, R146, R147). -/
def conclude (f : HdrFields) (code : Decoded RqCode) (s : State) : Host.Outcome State Fault Refusal :=
  match assemble f.version (zextType f.typeRaw) f.tokenLength code f.messageId with
  | .ok h => .next (returnHeader h s)
  | .err e => .next (raiseError e s)

/-- `code <- q`: the meaning of a row with a valid code byte. -/
def acceptCode (f : HdrFields) (q : RqCode) (s : State) : Host.Outcome State Fault Refusal := conclude f (.ok q) s

/-- `raise InvalidCode(class, detail)`: the meaning of a row with an invalid code byte. -/
def rejectCode (f : HdrFields) (cls : BitVec 3) (detail : Byte) (s : State) : Host.Outcome State Fault Refusal :=
  conclude f (.err (.invalidCode cls detail)) s

end Sys2Proof.Machine
end

