-- ==== Sys2Proof/Machine/ClientErrorRows.lean ====
section
/-! DEFINITION. The meanings of the rows of class 4, `41_code_taxonomy.md` section 4. -/

namespace Sys2Proof.Machine

/-- `CLIENTERROR.BADREQUEST`, R93: `code <- ClientError(BadRequest)`. -/
def execClientErrorBadRequest (f : HdrFields) (s : State) : Host.Outcome State Fault Refusal :=
  acceptCode f (.clientError .badRequest) s

/-- `CLIENTERROR.UNAUTHORIZED`, R94: `code <- ClientError(Unauthorized)`. -/
def execClientErrorUnauthorized (f : HdrFields) (s : State) : Host.Outcome State Fault Refusal :=
  acceptCode f (.clientError .unauthorized) s

/-- `CLIENTERROR.OTHER.2_3`, R95: `code <- ClientError(Other(d))`. -/
def execClientErrorOther2To3 (f : HdrFields) (d : BitVec 5) (s : State) : Host.Outcome State Fault Refusal :=
  acceptCode f (.clientError (.other (zextDetail d))) s

/-- `CLIENTERROR.OTHER.4_7`, R95: `code <- ClientError(Other(d))`. -/
def execClientErrorOther4To7 (f : HdrFields) (d : BitVec 5) (s : State) : Host.Outcome State Fault Refusal :=
  acceptCode f (.clientError (.other (zextDetail d))) s

/-- `CLIENTERROR.OTHER.8_9`, R95: `code <- ClientError(Other(d))`. -/
def execClientErrorOther8To9 (f : HdrFields) (d : BitVec 5) (s : State) : Host.Outcome State Fault Refusal :=
  acceptCode f (.clientError (.other (zextDetail d))) s

/-- `INVALID.CLIENTERROR.10_11`, R96: `raise InvalidCode(4, d)`. -/
def execInvalidClientError10To11 (f : HdrFields) (d : BitVec 5) (s : State) : Host.Outcome State Fault Refusal :=
  rejectCode f 4 (zextDetail d) s

/-- `CLIENTERROR.OTHER.12_13`, R95: `code <- ClientError(Other(d))`. -/
def execClientErrorOther12To13 (f : HdrFields) (d : BitVec 5) (s : State) : Host.Outcome State Fault Refusal :=
  acceptCode f (.clientError (.other (zextDetail d))) s

/-- `INVALID.CLIENTERROR.14`, R96: `raise InvalidCode(4, 14)`. -/
def execInvalidClientError14 (f : HdrFields) (s : State) : Host.Outcome State Fault Refusal :=
  rejectCode f 4 14 s

/-- `CLIENTERROR.OTHER.15`, R95: `code <- ClientError(Other(15))`. -/
def execClientErrorOther15 (f : HdrFields) (s : State) : Host.Outcome State Fault Refusal :=
  acceptCode f (.clientError (.other 15)) s

/-- `INVALID.CLIENTERROR.16_31`, R96: `raise InvalidCode(4, d)`. -/
def execInvalidClientError16To31 (f : HdrFields) (d : BitVec 5) (s : State) : Host.Outcome State Fault Refusal :=
  rejectCode f 4 (zextDetail d) s

end Sys2Proof.Machine
end

