-- ==== Sys2Proof/Machine/InvalidClassRows.lean ====
section
/-! DEFINITION. The meanings of the rows of class 1, 3 and 6, `41_code_taxonomy.md` section 7. -/

namespace Sys2Proof.Machine

/-- `INVALID.CLASS1`, R107: `raise InvalidCode(1, d)`. -/
def execInvalidClass1 (f : HdrFields) (d : BitVec 5) (s : State) : Host.Outcome State Fault Refusal :=
  rejectCode f 1 (zextDetail d) s

/-- `INVALID.CLASS3`, R107: `raise InvalidCode(3, d)`. -/
def execInvalidClass3 (f : HdrFields) (d : BitVec 5) (s : State) : Host.Outcome State Fault Refusal :=
  rejectCode f 3 (zextDetail d) s

/-- `INVALID.CLASS6`, R107: `raise InvalidCode(6, d)`. -/
def execInvalidClass6 (f : HdrFields) (d : BitVec 5) (s : State) : Host.Outcome State Fault Refusal :=
  rejectCode f 6 (zextDetail d) s

end Sys2Proof.Machine
end

