-- ==== Sys2Proof/Machine/MethodRows.lean ====
section
/-! DEFINITION. The meanings of the rows of class 0, `41_code_taxonomy.md` section 2. -/

namespace Sys2Proof.Machine

/-- `METHOD.EMPTY`, R82: `code <- Method(Empty)`. -/
def execMethodEmpty (f : HdrFields) (s : State) : Host.Outcome State Fault Refusal :=
  acceptCode f (.method .empty) s

/-- `METHOD.GET`, R83: `code <- Method(Get)`. -/
def execMethodGet (f : HdrFields) (s : State) : Host.Outcome State Fault Refusal :=
  acceptCode f (.method .get) s

/-- `METHOD.POST`, R84: `code <- Method(Post)`. -/
def execMethodPost (f : HdrFields) (s : State) : Host.Outcome State Fault Refusal :=
  acceptCode f (.method .post) s

/-- `METHOD.OTHER.3`, R85: `code <- Method(Other(3))`. -/
def execMethodOther3 (f : HdrFields) (s : State) : Host.Outcome State Fault Refusal :=
  acceptCode f (.method (.other 3)) s

/-- `METHOD.OTHER.4_7`, R85: `code <- Method(Other(d))`. -/
def execMethodOther4To7 (f : HdrFields) (d : BitVec 5) (s : State) : Host.Outcome State Fault Refusal :=
  acceptCode f (.method (.other (zextDetail d))) s

/-- `INVALID.METHOD.8_15`, R86: `raise InvalidCode(0, d)`. -/
def execInvalidMethod8To15 (f : HdrFields) (d : BitVec 5) (s : State) : Host.Outcome State Fault Refusal :=
  rejectCode f 0 (zextDetail d) s

/-- `INVALID.METHOD.16_31`, R86: `raise InvalidCode(0, d)`. -/
def execInvalidMethod16To31 (f : HdrFields) (d : BitVec 5) (s : State) : Host.Outcome State Fault Refusal :=
  rejectCode f 0 (zextDetail d) s

end Sys2Proof.Machine
end

