-- ==== Sys2Proof/Machine/ServerErrorRows.lean ====
section
/-! DEFINITION. The meanings of the rows of class 5, `41_code_taxonomy.md` section 5. -/

namespace Sys2Proof.Machine

/-- `SERVERERROR.INTERNAL`, R98: `code <- ServerError(Internal)`. -/
def execServerErrorInternal (f : HdrFields) (s : State) : Host.Outcome State Fault Refusal :=
  acceptCode f (.serverError .internal) s

/-- `SERVERERROR.NOTIMPLEMENTED`, R99: `code <- ServerError(NotImplemented)`. -/
def execServerErrorNotImplemented (f : HdrFields) (s : State) : Host.Outcome State Fault Refusal :=
  acceptCode f (.serverError .notImplemented) s

/-- `SERVERERROR.OTHER.2_3`, R100: `code <- ServerError(Other(d))`. -/
def execServerErrorOther2To3 (f : HdrFields) (d : BitVec 5) (s : State) : Host.Outcome State Fault Refusal :=
  acceptCode f (.serverError (.other (zextDetail d))) s

/-- `SERVERERROR.OTHER.4_5`, R100: `code <- ServerError(Other(d))`. -/
def execServerErrorOther4To5 (f : HdrFields) (d : BitVec 5) (s : State) : Host.Outcome State Fault Refusal :=
  acceptCode f (.serverError (.other (zextDetail d))) s

/-- `INVALID.SERVERERROR.6_7`, R101: `raise InvalidCode(5, d)`. -/
def execInvalidServerError6To7 (f : HdrFields) (d : BitVec 5) (s : State) : Host.Outcome State Fault Refusal :=
  rejectCode f 5 (zextDetail d) s

/-- `INVALID.SERVERERROR.8_15`, R101: `raise InvalidCode(5, d)`. -/
def execInvalidServerError8To15 (f : HdrFields) (d : BitVec 5) (s : State) : Host.Outcome State Fault Refusal :=
  rejectCode f 5 (zextDetail d) s

/-- `INVALID.SERVERERROR.16_31`, R101: `raise InvalidCode(5, d)`. -/
def execInvalidServerError16To31 (f : HdrFields) (d : BitVec 5) (s : State) : Host.Outcome State Fault Refusal :=
  rejectCode f 5 (zextDetail d) s

end Sys2Proof.Machine
end

