-- ==== Sys2Proof/Machine/SignalingRows.lean ====
section
/-! DEFINITION. The meanings of the rows of class 7, `41_code_taxonomy.md` section 6. -/

namespace Sys2Proof.Machine

/-- `SIGNALING.UNASSIGNED`, R103: `code <- Signaling(Unassigned)`. -/
def execSignalingUnassigned (f : HdrFields) (s : State) : Host.Outcome State Fault Refusal :=
  acceptCode f (.signaling .unassigned) s

/-- `SIGNALING.CSM`, R104: `code <- Signaling(CSM)`. -/
def execSignalingCsm (f : HdrFields) (s : State) : Host.Outcome State Fault Refusal :=
  acceptCode f (.signaling .csm) s

/-- `SIGNALING.OTHER.2_3`, R105: `code <- Signaling(Other(d))`. -/
def execSignalingOther2To3 (f : HdrFields) (d : BitVec 5) (s : State) : Host.Outcome State Fault Refusal :=
  acceptCode f (.signaling (.other (zextDetail d))) s

/-- `SIGNALING.OTHER.4_5`, R105: `code <- Signaling(Other(d))`. -/
def execSignalingOther4To5 (f : HdrFields) (d : BitVec 5) (s : State) : Host.Outcome State Fault Refusal :=
  acceptCode f (.signaling (.other (zextDetail d))) s

/-- `INVALID.SIGNALING.6_7`, R106: `raise InvalidCode(7, d)`. -/
def execInvalidSignaling6To7 (f : HdrFields) (d : BitVec 5) (s : State) : Host.Outcome State Fault Refusal :=
  rejectCode f 7 (zextDetail d) s

/-- `INVALID.SIGNALING.8_15`, R106: `raise InvalidCode(7, d)`. -/
def execInvalidSignaling8To15 (f : HdrFields) (d : BitVec 5) (s : State) : Host.Outcome State Fault Refusal :=
  rejectCode f 7 (zextDetail d) s

/-- `INVALID.SIGNALING.16_31`, R106: `raise InvalidCode(7, d)`. -/
def execInvalidSignaling16To31 (f : HdrFields) (d : BitVec 5) (s : State) : Host.Outcome State Fault Refusal :=
  rejectCode f 7 (zextDetail d) s

end Sys2Proof.Machine
end

