-- ==== Sys2Proof/Machine/SuccessRows.lean ====
section
/-! DEFINITION. The meanings of the rows of class 2, `41_code_taxonomy.md` section 3. -/

namespace Sys2Proof.Machine

/-- `SUCCESS.CREATED`, R88: `code <- Success(Created)`. -/
def execSuccessCreated (f : HdrFields) (s : State) : Host.Outcome State Fault Refusal :=
  acceptCode f (.success .created) s

/-- `SUCCESS.DELETED`, R89: `code <- Success(Deleted)`. -/
def execSuccessDeleted (f : HdrFields) (s : State) : Host.Outcome State Fault Refusal :=
  acceptCode f (.success .deleted) s

/-- `SUCCESS.OTHER.2_3`, R90: `code <- Success(Other(d))`. -/
def execSuccessOther2To3 (f : HdrFields) (d : BitVec 5) (s : State) : Host.Outcome State Fault Refusal :=
  acceptCode f (.success (.other (zextDetail d))) s

/-- `SUCCESS.OTHER.4_5`, R90: `code <- Success(Other(d))`. -/
def execSuccessOther4To5 (f : HdrFields) (d : BitVec 5) (s : State) : Host.Outcome State Fault Refusal :=
  acceptCode f (.success (.other (zextDetail d))) s

/-- `INVALID.SUCCESS.6_7`, R91: `raise InvalidCode(2, d)`. -/
def execInvalidSuccess6To7 (f : HdrFields) (d : BitVec 5) (s : State) : Host.Outcome State Fault Refusal :=
  rejectCode f 2 (zextDetail d) s

/-- `INVALID.SUCCESS.8_15`, R91: `raise InvalidCode(2, d)`. -/
def execInvalidSuccess8To15 (f : HdrFields) (d : BitVec 5) (s : State) : Host.Outcome State Fault Refusal :=
  rejectCode f 2 (zextDetail d) s

/-- `INVALID.SUCCESS.16_23`, R91: `raise InvalidCode(2, d)`. -/
def execInvalidSuccess16To23 (f : HdrFields) (d : BitVec 5) (s : State) : Host.Outcome State Fault Refusal :=
  rejectCode f 2 (zextDetail d) s

/-- `INVALID.SUCCESS.24_27`, R91: `raise InvalidCode(2, d)`. -/
def execInvalidSuccess24To27 (f : HdrFields) (d : BitVec 5) (s : State) : Host.Outcome State Fault Refusal :=
  rejectCode f 2 (zextDetail d) s

/-- `INVALID.SUCCESS.28_29`, R91: `raise InvalidCode(2, d)`. -/
def execInvalidSuccess28To29 (f : HdrFields) (d : BitVec 5) (s : State) : Host.Outcome State Fault Refusal :=
  rejectCode f 2 (zextDetail d) s

/-- `INVALID.SUCCESS.30`, R91: `raise InvalidCode(2, 30)`. -/
def execInvalidSuccess30 (f : HdrFields) (s : State) : Host.Outcome State Fault Refusal :=
  rejectCode f 2 30 s

/-- `SUCCESS.OTHER.31`, R90: `code <- Success(Other(31))`. -/
def execSuccessOther31 (f : HdrFields) (s : State) : Host.Outcome State Fault Refusal :=
  acceptCode f (.success (.other 31)) s

end Sys2Proof.Machine
end

