-- ==== Sys2Proof/Machine/Dispatch.lean ====
section
/-! DEFINITION. One arm per instruction: the direct call of its meaning. -/

namespace Sys2Proof.Machine

def exec (i : Instr) (s : State) : Host.Outcome State Fault Refusal :=
  match i with
  | .methodEmpty f => Sys2Proof.Machine.execMethodEmpty f s
  | .methodGet f => Sys2Proof.Machine.execMethodGet f s
  | .methodPost f => Sys2Proof.Machine.execMethodPost f s
  | .methodOther3 f => Sys2Proof.Machine.execMethodOther3 f s
  | .methodOther4To7 f d => Sys2Proof.Machine.execMethodOther4To7 f d s
  | .invalidMethod8To15 f d => Sys2Proof.Machine.execInvalidMethod8To15 f d s
  | .invalidMethod16To31 f d => Sys2Proof.Machine.execInvalidMethod16To31 f d s
  | .invalidClass1 f d => Sys2Proof.Machine.execInvalidClass1 f d s
  | .successCreated f => Sys2Proof.Machine.execSuccessCreated f s
  | .successDeleted f => Sys2Proof.Machine.execSuccessDeleted f s
  | .successOther2To3 f d => Sys2Proof.Machine.execSuccessOther2To3 f d s
  | .successOther4To5 f d => Sys2Proof.Machine.execSuccessOther4To5 f d s
  | .invalidSuccess6To7 f d => Sys2Proof.Machine.execInvalidSuccess6To7 f d s
  | .invalidSuccess8To15 f d => Sys2Proof.Machine.execInvalidSuccess8To15 f d s
  | .invalidSuccess16To23 f d => Sys2Proof.Machine.execInvalidSuccess16To23 f d s
  | .invalidSuccess24To27 f d => Sys2Proof.Machine.execInvalidSuccess24To27 f d s
  | .invalidSuccess28To29 f d => Sys2Proof.Machine.execInvalidSuccess28To29 f d s
  | .invalidSuccess30 f => Sys2Proof.Machine.execInvalidSuccess30 f s
  | .successOther31 f => Sys2Proof.Machine.execSuccessOther31 f s
  | .invalidClass3 f d => Sys2Proof.Machine.execInvalidClass3 f d s
  | .clientErrorBadRequest f => Sys2Proof.Machine.execClientErrorBadRequest f s
  | .clientErrorUnauthorized f => Sys2Proof.Machine.execClientErrorUnauthorized f s
  | .clientErrorOther2To3 f d => Sys2Proof.Machine.execClientErrorOther2To3 f d s
  | .clientErrorOther4To7 f d => Sys2Proof.Machine.execClientErrorOther4To7 f d s
  | .clientErrorOther8To9 f d => Sys2Proof.Machine.execClientErrorOther8To9 f d s
  | .invalidClientError10To11 f d => Sys2Proof.Machine.execInvalidClientError10To11 f d s
  | .clientErrorOther12To13 f d => Sys2Proof.Machine.execClientErrorOther12To13 f d s
  | .invalidClientError14 f => Sys2Proof.Machine.execInvalidClientError14 f s
  | .clientErrorOther15 f => Sys2Proof.Machine.execClientErrorOther15 f s
  | .invalidClientError16To31 f d => Sys2Proof.Machine.execInvalidClientError16To31 f d s
  | .serverErrorInternal f => Sys2Proof.Machine.execServerErrorInternal f s
  | .serverErrorNotImplemented f => Sys2Proof.Machine.execServerErrorNotImplemented f s
  | .serverErrorOther2To3 f d => Sys2Proof.Machine.execServerErrorOther2To3 f d s
  | .serverErrorOther4To5 f d => Sys2Proof.Machine.execServerErrorOther4To5 f d s
  | .invalidServerError6To7 f d => Sys2Proof.Machine.execInvalidServerError6To7 f d s
  | .invalidServerError8To15 f d => Sys2Proof.Machine.execInvalidServerError8To15 f d s
  | .invalidServerError16To31 f d => Sys2Proof.Machine.execInvalidServerError16To31 f d s
  | .invalidClass6 f d => Sys2Proof.Machine.execInvalidClass6 f d s
  | .signalingUnassigned f => Sys2Proof.Machine.execSignalingUnassigned f s
  | .signalingCsm f => Sys2Proof.Machine.execSignalingCsm f s
  | .signalingOther2To3 f d => Sys2Proof.Machine.execSignalingOther2To3 f d s
  | .signalingOther4To5 f d => Sys2Proof.Machine.execSignalingOther4To5 f d s
  | .invalidSignaling6To7 f d => Sys2Proof.Machine.execInvalidSignaling6To7 f d s
  | .invalidSignaling8To15 f d => Sys2Proof.Machine.execInvalidSignaling8To15 f d s
  | .invalidSignaling16To31 f d => Sys2Proof.Machine.execInvalidSignaling16To31 f d s

end Sys2Proof.Machine
end

