-- ==== Sys2Proof/Machine/Step.lean ====
section
/-! DEFINITION. One step: one evaluation (`10_state.md` R11, `00_scope.md` R9, D3).  The block has no program counter; the
instruction is selected by the input buffer, which stays as the host presented it. -/

namespace Sys2Proof.Machine

/-- Read the four input bytes, decode the row, run its meaning. -/
def step (s : State) : Host.Outcome State Fault Refusal :=
  match fetch s with
  | .error r => .fault r
  | .ok b =>
    match decodeInstr b with
    | .error why => .refused (.undecodable why)
    | .ok i => exec i s

/-- The state with a table word presented as its header, so that the next step evaluates it (entry 4). -/
def State.withFetchWord (s : State) (nbits w : Nat) : State := s.present (tableBytes nbits w)

end Sys2Proof.Machine
end

