-- ==== Sys2Proof/Machine/Render.lean ====
section
/-! DEFINITION. RENDER.CODE and RENDER.HEADER of `43_render.md`: reference functions beside the block.  The labels, the
line order and the decimal numbers of R132 are the spec's own choice (D14): nothing may be concluded from them about
the original program's output. -/

namespace Sys2Proof.Machine

/-- `decimal(n)`: the number in decimal without padding. -/
def decimal (n : Nat) : String := Nat.repr n

/-- `TypeName`, the tag name of a message type, `30_encoding.md` R55. -/
def typeName : MsgType → String
  | .confirmable => "Confirmable"
  | .nonConfirmable => "NonConfirmable"
  | .acknowledgment => "Acknowledgment"
  | .reset => "Reset"

/-- `VariantRepr(Other(v))`, R131. -/
def otherRepr (v : Byte) : String := "Other(" ++ decimal v.toNat ++ ")"

/-- `ClassName`, by the tag of the code, R131. -/
def className : RqCode → String
  | .method _ => "Method"
  | .success _ => "Success"
  | .clientError _ => "ClientError"
  | .serverError _ => "ServerError"
  | .signaling _ => "Signaling"

/-- `VariantRepr`, R131. -/
def variantRepr : RqCode → String
  | .method .empty => "Empty"
  | .method .get => "Get"
  | .method .post => "Post"
  | .method (.other v) => otherRepr v
  | .success .created => "Created"
  | .success .deleted => "Deleted"
  | .success (.other v) => otherRepr v
  | .clientError .badRequest => "BadRequest"
  | .clientError .unauthorized => "Unauthorized"
  | .clientError (.other v) => otherRepr v
  | .serverError .internal => "Internal"
  | .serverError .notImplemented => "NotImplemented"
  | .serverError (.other v) => otherRepr v
  | .signaling .unassigned => "Unassigned"
  | .signaling .csm => "CSM"
  | .signaling (.other v) => otherRepr v

/-- `RENDER.CODE`, R131: class name, one space, the variant. -/
def renderCode (q : RqCode) : String := className q ++ " " ++ variantRepr q

/-- The five lines of R132, in the order of R130, without their line feeds. -/
def renderLines (h : Header) : List String :=
  [ "Version: " ++ decimal h.version.toNat,
    "Type: " ++ typeName h.type,
    "Token length: " ++ decimal h.tokenLength.toNat,
    "Code: " ++ renderCode h.code,
    "Message ID: " ++ decimal h.messageId.toNat ]

/-- `RENDER.HEADER`, R132: each line ended by a line feed.  Total, also on headers that are not valid (R139). -/
def renderHeader (h : Header) : String := (renderLines h).foldr (fun line rest => line ++ "\n" ++ rest) ""

end Sys2Proof.Machine
end

