-- ==== Sys2Proof/Machine/Session.lean ====
section
/-! DEFINITION. A host's session: headers presented one after another, one evaluation each (`95_test_vectors.md`
section 4, `60_exceptions.md` R152, R153).  The block has no queue; the list is the host's. -/

namespace Sys2Proof.Machine

/-- The host presents `b` and the block evaluates it. -/
def evaluate (b : HeaderBytes) (s : State) : Host.Outcome State Fault Refusal := step (s.present b)

/-- The state after a sequence of evaluations; it stays where it is if one does not return. -/
def sessionEnd : List HeaderBytes → State → State
  | [], s => s
  | b :: rest, s =>
    match evaluate b s with
    | .next t => sessionEnd rest t
    | .fault _ => s
    | .refused _ => s

/-- The results of a sequence of evaluations, one per header; an evaluation that does not return gives `none` and ends
the session. -/
def sessionResults : List HeaderBytes → State → List (Option Result)
  | [], _ => []
  | b :: rest, s =>
    match evaluate b s with
    | .next t => t.result :: sessionResults rest t
    | .fault _ => [none]
    | .refused _ => [none]

end Sys2Proof.Machine
end

