-- ==== Sys2Proof/Safety.lean ====
section
/-! DEFINITION. What counts as a safe state and a safe evaluation, in the terms the statements use. -/

namespace Sys2Proof.Machine

/-- An evaluation returns: no fault and no refusal. -/
def Returns (s : State) : Prop := ∃ t, step s = .next t ∧ t.result.isSome

/-- A result a decoder of this spec may return: a header that is valid and canonical (`44_construct.md` R138), or the
error `InvalidCode` on a wire pair the taxonomy rejects (`60_exceptions.md` R142); never `InvalidMessageType` (R141). -/
def SoundResult : Result → Prop
  | .ok h => HeaderValid h ∧ HeaderCanonical h
  | .err (.invalidMessageType _) => False
  | .err (.invalidCode c d) => d ≤ 31 ∧ decodeCode c d = .err (.invalidCode c d)

/-- The invariant: the input buffer is in canonical form, and a result that has been returned is sound. -/
def Inv (s : State) : Prop := s.mem.wf ∧ ∀ r, s.result = some r → SoundResult r

end Sys2Proof.Machine
end

