-- ==== Sys2Proof/Certificates/Slice0/Obligations.lean ====
section
/-! DEFINITION. The statements for the provers.  Each docstring says what it states; OBLIGATIONS.json names the rules. -/

open Sys2Proof Sys2Proof.Machine

/-- A step is exec of the instruction the input buffer decodes to. (10_state.md R11, 00_scope.md R9,
92_eei_decisions.md D3) -/
def Obligations.StepRunsDecodedInstruction : Prop :=
  ∀ (s : State) (i : Instr), decodeInstr s.inputBytes = .ok i → step s = exec i s

/-- Seven header words, one per class and one for each invalid kind, decode to their rows. (30_encoding.md section
3, 95_test_vectors.md section 2.5) -/
def Obligations.SampleWordsDecodeToTheirRows : Prop :=
  decodeTableWord 32 0x40010001 = some (.methodGet { version := 1, typeRaw := 0, tokenLength := 0, messageId := 1 }) ∧
  decodeTableWord 32 0x605F0001 = some (.successOther31 { version := 1, typeRaw := 2, tokenLength := 0, messageId := 1 }) ∧
  decodeTableWord 32 0x588CFFFE =
    some (.clientErrorOther12To13 { version := 1, typeRaw := 1, tokenLength := 8, messageId := 65534 } 12) ∧
  decodeTableWord 32 0x2FA5FF00 =
    some (.serverErrorOther4To5 { version := 0, typeRaw := 2, tokenLength := 15, messageId := 65280 } 5) ∧
  decodeTableWord 32 0x7FE11234 =
    some (.signalingCsm { version := 1, typeRaw := 3, tokenLength := 15, messageId := 4660 }) ∧
  decodeTableWord 32 0x40080001 =
    some (.invalidMethod8To15 { version := 1, typeRaw := 0, tokenLength := 0, messageId := 1 } 8) ∧
  decodeTableWord 32 0x407F0001 =
    some (.invalidClass3 { version := 1, typeRaw := 0, tokenLength := 0, messageId := 1 } 31)

/-- Decoding the encoded bytes of any well-formed instruction gives that instruction back. (30_encoding.md R41,
30_encoding.md R48) -/
def Obligations.DecodeOfEncodeIsTheInstruction : Prop :=
  ∀ i : Instr, WellFormed i → decodeInstr (encode i) = .ok i

/-- Every four bytes decode to a well-formed instruction whose encoding is those bytes. (30_encoding.md R48,
30_encoding.md R53) -/
def Obligations.EveryHeaderDecodesAndEncodesBack : Prop :=
  ∀ b : HeaderBytes, ∃ i, decodeInstr b = .ok i ∧ WellFormed i ∧ encode i = b

/-- The 45 rows partition the header words: each word is accepted by exactly one row. (30_encoding.md R48) -/
def Obligations.RowsPartitionHeaderWords : Prop :=
  opTable.length = 45 ∧
  ∀ w : Word, ∃ k, ∃ hk : k < opTable.length, (opTable[k]'hk).accepts w = true ∧
    ∀ j, ∀ hj : j < opTable.length, (opTable[j]'hj).accepts w = true → j = k

/-- The fields are allotted from the top bit down, each input bit in exactly one field, message id big-endian.
(20_memory.md R31, 20_memory.md R32) -/
def Obligations.HeaderWordIsItsFieldsInOrder : Prop :=
  ∀ b : HeaderBytes,
    b.b0 = extVersion b ++ extType b ++ extTkl b ∧
    b.b0.toNat = 64 * (extVersion b).toNat + 16 * (extType b).toNat + (extTkl b).toNat ∧
    b.b1 = extClass b ++ extDetail5 b ∧
    b.b1.toNat = 32 * (extClass b).toNat + (extDetail5 b).toNat ∧
    extMid b = b.b2 ++ b.b3 ∧
    (extMid b).toNat = 256 * b.b2.toNat + b.b3.toNat ∧
    extMid b = b.toWord.extractLsb' 0 16 ∧
    b.toWord = extVersion b ++ extType b ++ extTkl b ++ extClass b ++ extDetail5 b ++ extMid b

/-- EXT.VERSION, EXT.TKL, EXT.CLASS, EXT.DETAIL and EXT.MID give the numbers of their rules. (40_extract.md R63,
40_extract.md R65, 40_extract.md R66, 40_extract.md R67, 40_extract.md R69) -/
def Obligations.ExtractionsAreShiftsAndMasks : Prop :=
  (∀ b : HeaderBytes,
    (extVersion b).toNat = b.b0.toNat / 64 ∧
    (extTkl b).toNat = b.b0.toNat % 16 ∧
    (extClass b).toNat = b.b1.toNat / 32 ∧
    (extDetail b).toNat = b.b1.toNat % 32 ∧
    (extDetail b).toNat ≤ 31 ∧
    (extMid b).toNat = 256 * b.b2.toNat + b.b3.toNat) ∧
  (∀ c : BitVec 3, ∃ b : HeaderBytes, extClass b = c) ∧
  (∀ (c : BitVec 3) (d : Byte), c = 1 ∨ c = 3 ∨ c = 6 → ∃ e, decodeCode c d = .err e) ∧
  (∀ d ∈ classTable.method.extra ++ classTable.success.extra ++ classTable.clientError.extra ++
      classTable.serverError.extra ++ classTable.signaling.extra, d ≤ 31) ∧
  (∀ b b' : HeaderBytes, b.b1 = b'.b1 → okPort (decodeHeader b) = okPort (decodeHeader b'))

/-- With a valid code every version, type, token length and message id is accepted as it is. (30_encoding.md R52) -/
def Obligations.FreeFieldsHaveNoInvalidValue : Prop :=
  (∀ (s : State) (q : RqCode),
    decodeCode (extClass s.inputBytes) (extDetail s.inputBytes) = .ok q →
    ∃ (t : State) (type : MsgType), step s = .next t ∧
      t.result = some (.ok
        { version := extVersion s.inputBytes, type, tokenLength := extTkl s.inputBytes, code := q,
          messageId := extMid s.inputBytes }) ∧ typeNumber type = extType s.inputBytes) ∧
  (∀ raw : BitVec 2, ∃ type : MsgType, typeNumber type = raw)

/-- W[29:28] = 00, 01, 10, 11 gives Confirmable, NonConfirmable, Acknowledgment, Reset, with no error of its own.
(40_extract.md R70, 40_extract.md R71, 40_extract.md R72, 40_extract.md R73) -/
def Obligations.TypeFieldSelectsTheMessageType : Prop :=
  ∀ (s : State) (q : RqCode),
    let b := s.inputBytes
    decodeCode (extClass b) (extDetail b) = .ok q →
    let returned (type : MsgType) : State := { s with result := some (.ok
      { version := extVersion b, type, tokenLength := extTkl b, code := q, messageId := extMid b }) }
    (s.hdrIn.extractLsb' 28 2 = 0b00#2 → step s = .next (returned .confirmable)) ∧
    (s.hdrIn.extractLsb' 28 2 = 0b01#2 → step s = .next (returned .nonConfirmable)) ∧
    (s.hdrIn.extractLsb' 28 2 = 0b10#2 → step s = .next (returned .acknowledgment)) ∧
    (s.hdrIn.extractLsb' 28 2 = 0b11#2 → step s = .next (returned .reset)) ∧
    typeNumber .confirmable = 0 ∧ typeNumber .nonConfirmable = 1 ∧ typeNumber .acknowledgment = 2 ∧
    typeNumber .reset = 3

/-- MsgTypeOfRaw maps 0..3 to the four types, raises InvalidMessageType(t) on 4..255, and never fails on a wire
type. (40_extract.md R64, 40_extract.md R68, 40_extract.md R74, 92_eei_decisions.md D8, 92_eei_decisions.md D11) -/
def Obligations.TypeValidatorFailsOnlyOffTheWire : Prop :=
  (∀ t : Byte,
    (t = 0 → msgTypeOfRaw t = .ok .confirmable) ∧ (t = 1 → msgTypeOfRaw t = .ok .nonConfirmable) ∧
    (t = 2 → msgTypeOfRaw t = .ok .acknowledgment) ∧ (t = 3 → msgTypeOfRaw t = .ok .reset) ∧
    (4 ≤ t → msgTypeOfRaw t = .err (.invalidMessageType t))) ∧
  (∀ b : HeaderBytes, (extType b).toNat = b.b0.toNat / 16 % 4 ∧
    ∃ type, msgTypeOfRaw (zextType (extType b)) = .ok type ∧ typeNumber type = extType b)

/-- If the type validation failed, the result would be that error whatever the code is. (40_extract.md R74,
60_exceptions.md R145, 92_eei_decisions.md D6) -/
def Obligations.TypeErrorHidesTheCode : Prop :=
  ∀ (version : BitVec 2) (t : Byte) (tokenLength : BitVec 4) (code : Decoded RqCode) (messageId : BitVec 16)
    (e : DecodeError), msgTypeOfRaw t = .err e →
    e = .invalidMessageType t ∧ assemble version t tokenLength code messageId = .err (.invalidMessageType t)

/-- The valid rows of class 0: their code bytes, and exec returns Ok with the row's Method code and all else kept.
(41_code_taxonomy.md R82, 41_code_taxonomy.md R83, 41_code_taxonomy.md R84, 41_code_taxonomy.md R85) -/
def Obligations.MethodRowsReturnTheirCode : Prop :=
  (∀ (version : BitVec 2) (type : MsgType) (tokenLength : BitVec 4) (messageId : BitVec 16) (s : State),
    let f : HdrFields := { version, typeRaw := typeNumber type, tokenLength, messageId }
    let returned (q : RqCode) : State :=
      { s with result := some (.ok { version, type, tokenLength, code := q, messageId }) }
    exec (.methodEmpty f) s = .next (returned (.method .empty)) ∧
    exec (.methodGet f) s = .next (returned (.method .get)) ∧
    exec (.methodPost f) s = .next (returned (.method .post)) ∧
    exec (.methodOther3 f) s = .next (returned (.method (.other 3))) ∧
    (∀ d : BitVec 5, 4 ≤ d → d ≤ 7 →
      exec (.methodOther4To7 f d) s = .next (returned (.method (.other (zextDetail d)))))) ∧
  (∀ b : HeaderBytes,
    (b.b1 = 0x00 → decodeInstr b = .ok (.methodEmpty (hdrFields b))) ∧
    (b.b1 = 0x01 → decodeInstr b = .ok (.methodGet (hdrFields b))) ∧
    (b.b1 = 0x02 → decodeInstr b = .ok (.methodPost (hdrFields b))) ∧
    (b.b1 = 0x03 → decodeInstr b = .ok (.methodOther3 (hdrFields b))) ∧
    (0x04 ≤ b.b1 → b.b1 ≤ 0x07 → decodeInstr b = .ok (.methodOther4To7 (hdrFields b) (extDetail5 b)))) ∧
  decodeCode 0 0 = .ok (.method .empty) ∧
  decodeCode 0 1 = .ok (.method .get) ∧
  decodeCode 0 2 = .ok (.method .post) ∧
  (∀ d : Byte, 3 ≤ d → d ≤ 7 → decodeCode 0 d = .ok (.method (.other d))) ∧
  classTable.method.ceiling = 7 ∧
  classTable.method.extra = [] ∧
  decodeCode 2 2 = .ok (.success (.other 2)) ∧ decodeCode 4 2 = .ok (.clientError (.other 2)) ∧
  decodeCode 5 2 = .ok (.serverError (.other 2)) ∧ decodeCode 7 2 = .ok (.signaling (.other 2))

/-- The invalid rows of class 0: their code bytes, and exec raises InvalidCode(0, d) and keeps all else.
(41_code_taxonomy.md R86) -/
def Obligations.MethodInvalidRowsRaiseInvalidCode : Prop :=
  (∀ (f : HdrFields) (s : State),
    let raised (d : Byte) : State := { s with result := some (.err (.invalidCode 0 d)) }
    (∀ d : BitVec 5, 8 ≤ d → d ≤ 15 →
      exec (.invalidMethod8To15 f d) s = .next (raised (zextDetail d))) ∧
    (∀ d : BitVec 5, 16 ≤ d → d ≤ 31 →
      exec (.invalidMethod16To31 f d) s = .next (raised (zextDetail d)))) ∧
  (∀ b : HeaderBytes,
    (0x08 ≤ b.b1 → b.b1 ≤ 0x0F → decodeInstr b = .ok (.invalidMethod8To15 (hdrFields b) (extDetail5 b))) ∧
    (0x10 ≤ b.b1 → b.b1 ≤ 0x1F → decodeInstr b = .ok (.invalidMethod16To31 (hdrFields b) (extDetail5 b)))) ∧
  (∀ d : Byte, 8 ≤ d → decodeCode 0 d = .err (.invalidCode 0 d)) ∧
  decodeCode 2 31 = .ok (.success (.other 31))

/-- The valid rows of class 2: their code bytes, and exec returns Ok with the row's Success code and all else kept.
(41_code_taxonomy.md R88, 41_code_taxonomy.md R89, 41_code_taxonomy.md R90) -/
def Obligations.SuccessRowsReturnTheirCode : Prop :=
  (∀ (version : BitVec 2) (type : MsgType) (tokenLength : BitVec 4) (messageId : BitVec 16) (s : State),
    let f : HdrFields := { version, typeRaw := typeNumber type, tokenLength, messageId }
    let returned (q : RqCode) : State :=
      { s with result := some (.ok { version, type, tokenLength, code := q, messageId }) }
    exec (.successCreated f) s = .next (returned (.success .created)) ∧
    exec (.successDeleted f) s = .next (returned (.success .deleted)) ∧
    (∀ d : BitVec 5, 2 ≤ d → d ≤ 3 →
      exec (.successOther2To3 f d) s = .next (returned (.success (.other (zextDetail d))))) ∧
    (∀ d : BitVec 5, 4 ≤ d → d ≤ 5 →
      exec (.successOther4To5 f d) s = .next (returned (.success (.other (zextDetail d))))) ∧
    exec (.successOther31 f) s = .next (returned (.success (.other 31)))) ∧
  (∀ b : HeaderBytes,
    (b.b1 = 0x40 → decodeInstr b = .ok (.successCreated (hdrFields b))) ∧
    (b.b1 = 0x41 → decodeInstr b = .ok (.successDeleted (hdrFields b))) ∧
    (0x42 ≤ b.b1 → b.b1 ≤ 0x43 → decodeInstr b = .ok (.successOther2To3 (hdrFields b) (extDetail5 b))) ∧
    (0x44 ≤ b.b1 → b.b1 ≤ 0x45 → decodeInstr b = .ok (.successOther4To5 (hdrFields b) (extDetail5 b))) ∧
    (b.b1 = 0x5F → decodeInstr b = .ok (.successOther31 (hdrFields b)))) ∧
  decodeCode 2 0 = .ok (.success .created) ∧
  decodeCode 2 1 = .ok (.success .deleted) ∧
  (∀ d : Byte, (2 ≤ d ∧ d ≤ 5) ∨ d = 31 → decodeCode 2 d = .ok (.success (.other d))) ∧
  classTable.success.ceiling = 5 ∧
  classTable.success.extra = [31]

/-- The invalid rows of class 2: their code bytes, and exec raises InvalidCode(2, d) and keeps all else.
(41_code_taxonomy.md R91) -/
def Obligations.SuccessInvalidRowsRaiseInvalidCode : Prop :=
  (∀ (f : HdrFields) (s : State),
    let raised (d : Byte) : State := { s with result := some (.err (.invalidCode 2 d)) }
    (∀ d : BitVec 5, 6 ≤ d → d ≤ 7 →
      exec (.invalidSuccess6To7 f d) s = .next (raised (zextDetail d))) ∧
    (∀ d : BitVec 5, 8 ≤ d → d ≤ 15 →
      exec (.invalidSuccess8To15 f d) s = .next (raised (zextDetail d))) ∧
    (∀ d : BitVec 5, 16 ≤ d → d ≤ 23 →
      exec (.invalidSuccess16To23 f d) s = .next (raised (zextDetail d))) ∧
    (∀ d : BitVec 5, 24 ≤ d → d ≤ 27 →
      exec (.invalidSuccess24To27 f d) s = .next (raised (zextDetail d))) ∧
    (∀ d : BitVec 5, 28 ≤ d → d ≤ 29 →
      exec (.invalidSuccess28To29 f d) s = .next (raised (zextDetail d))) ∧
    exec (.invalidSuccess30 f) s = .next (raised 30)) ∧
  (∀ b : HeaderBytes,
    (0x46 ≤ b.b1 → b.b1 ≤ 0x47 → decodeInstr b = .ok (.invalidSuccess6To7 (hdrFields b) (extDetail5 b))) ∧
    (0x48 ≤ b.b1 → b.b1 ≤ 0x4F → decodeInstr b = .ok (.invalidSuccess8To15 (hdrFields b) (extDetail5 b))) ∧
    (0x50 ≤ b.b1 → b.b1 ≤ 0x57 → decodeInstr b = .ok (.invalidSuccess16To23 (hdrFields b) (extDetail5 b))) ∧
    (0x58 ≤ b.b1 → b.b1 ≤ 0x5B → decodeInstr b = .ok (.invalidSuccess24To27 (hdrFields b) (extDetail5 b))) ∧
    (0x5C ≤ b.b1 → b.b1 ≤ 0x5D → decodeInstr b = .ok (.invalidSuccess28To29 (hdrFields b) (extDetail5 b))) ∧
    (b.b1 = 0x5E → decodeInstr b = .ok (.invalidSuccess30 (hdrFields b)))) ∧
  (∀ d : Byte, (6 ≤ d ∧ d ≤ 30) ∨ 32 ≤ d → decodeCode 2 d = .err (.invalidCode 2 d))

/-- The valid rows of class 4: their code bytes, and exec returns Ok with the row's ClientError code and all else
kept. (41_code_taxonomy.md R93, 41_code_taxonomy.md R94, 41_code_taxonomy.md R95) -/
def Obligations.ClientErrorRowsReturnTheirCode : Prop :=
  (∀ (version : BitVec 2) (type : MsgType) (tokenLength : BitVec 4) (messageId : BitVec 16) (s : State),
    let f : HdrFields := { version, typeRaw := typeNumber type, tokenLength, messageId }
    let returned (q : RqCode) : State :=
      { s with result := some (.ok { version, type, tokenLength, code := q, messageId }) }
    exec (.clientErrorBadRequest f) s = .next (returned (.clientError .badRequest)) ∧
    exec (.clientErrorUnauthorized f) s = .next (returned (.clientError .unauthorized)) ∧
    (∀ d : BitVec 5, 2 ≤ d → d ≤ 3 →
      exec (.clientErrorOther2To3 f d) s = .next (returned (.clientError (.other (zextDetail d))))) ∧
    (∀ d : BitVec 5, 4 ≤ d → d ≤ 7 →
      exec (.clientErrorOther4To7 f d) s = .next (returned (.clientError (.other (zextDetail d))))) ∧
    (∀ d : BitVec 5, 8 ≤ d → d ≤ 9 →
      exec (.clientErrorOther8To9 f d) s = .next (returned (.clientError (.other (zextDetail d))))) ∧
    (∀ d : BitVec 5, 12 ≤ d → d ≤ 13 →
      exec (.clientErrorOther12To13 f d) s = .next (returned (.clientError (.other (zextDetail d))))) ∧
    exec (.clientErrorOther15 f) s = .next (returned (.clientError (.other 15)))) ∧
  (∀ b : HeaderBytes,
    (b.b1 = 0x80 → decodeInstr b = .ok (.clientErrorBadRequest (hdrFields b))) ∧
    (b.b1 = 0x81 → decodeInstr b = .ok (.clientErrorUnauthorized (hdrFields b))) ∧
    (0x82 ≤ b.b1 → b.b1 ≤ 0x83 → decodeInstr b = .ok (.clientErrorOther2To3 (hdrFields b) (extDetail5 b))) ∧
    (0x84 ≤ b.b1 → b.b1 ≤ 0x87 → decodeInstr b = .ok (.clientErrorOther4To7 (hdrFields b) (extDetail5 b))) ∧
    (0x88 ≤ b.b1 → b.b1 ≤ 0x89 → decodeInstr b = .ok (.clientErrorOther8To9 (hdrFields b) (extDetail5 b))) ∧
    (0x8C ≤ b.b1 → b.b1 ≤ 0x8D → decodeInstr b = .ok (.clientErrorOther12To13 (hdrFields b) (extDetail5 b))) ∧
    (b.b1 = 0x8F → decodeInstr b = .ok (.clientErrorOther15 (hdrFields b)))) ∧
  decodeCode 4 0 = .ok (.clientError .badRequest) ∧
  decodeCode 4 1 = .ok (.clientError .unauthorized) ∧
  (∀ d : Byte, (2 ≤ d ∧ d ≤ 9) ∨ d = 12 ∨ d = 13 ∨ d = 15 → decodeCode 4 d = .ok (.clientError (.other d))) ∧
  classTable.clientError.ceiling = 9 ∧
  classTable.clientError.extra = [12, 13, 15] ∧
  decodeCode 4 14 = .err (.invalidCode 4 14)

/-- The invalid rows of class 4: their code bytes, and exec raises InvalidCode(4, d) and keeps all else.
(41_code_taxonomy.md R96) -/
def Obligations.ClientErrorInvalidRowsRaiseInvalidCode : Prop :=
  (∀ (f : HdrFields) (s : State),
    let raised (d : Byte) : State := { s with result := some (.err (.invalidCode 4 d)) }
    (∀ d : BitVec 5, 10 ≤ d → d ≤ 11 →
      exec (.invalidClientError10To11 f d) s = .next (raised (zextDetail d))) ∧
    exec (.invalidClientError14 f) s = .next (raised 14) ∧
    (∀ d : BitVec 5, 16 ≤ d → d ≤ 31 →
      exec (.invalidClientError16To31 f d) s = .next (raised (zextDetail d)))) ∧
  (∀ b : HeaderBytes,
    (0x8A ≤ b.b1 → b.b1 ≤ 0x8B → decodeInstr b = .ok (.invalidClientError10To11 (hdrFields b) (extDetail5 b))) ∧
    (b.b1 = 0x8E → decodeInstr b = .ok (.invalidClientError14 (hdrFields b))) ∧
    (0x90 ≤ b.b1 → b.b1 ≤ 0x9F → decodeInstr b = .ok (.invalidClientError16To31 (hdrFields b) (extDetail5 b)))) ∧
  (∀ d : Byte, d = 10 ∨ d = 11 ∨ d = 14 ∨ 16 ≤ d → decodeCode 4 d = .err (.invalidCode 4 d))

/-- The valid rows of class 5: their code bytes, and exec returns Ok with the row's ServerError code and all else
kept. (41_code_taxonomy.md R98, 41_code_taxonomy.md R99, 41_code_taxonomy.md R100) -/
def Obligations.ServerErrorRowsReturnTheirCode : Prop :=
  (∀ (version : BitVec 2) (type : MsgType) (tokenLength : BitVec 4) (messageId : BitVec 16) (s : State),
    let f : HdrFields := { version, typeRaw := typeNumber type, tokenLength, messageId }
    let returned (q : RqCode) : State :=
      { s with result := some (.ok { version, type, tokenLength, code := q, messageId }) }
    exec (.serverErrorInternal f) s = .next (returned (.serverError .internal)) ∧
    exec (.serverErrorNotImplemented f) s = .next (returned (.serverError .notImplemented)) ∧
    (∀ d : BitVec 5, 2 ≤ d → d ≤ 3 →
      exec (.serverErrorOther2To3 f d) s = .next (returned (.serverError (.other (zextDetail d))))) ∧
    (∀ d : BitVec 5, 4 ≤ d → d ≤ 5 →
      exec (.serverErrorOther4To5 f d) s = .next (returned (.serverError (.other (zextDetail d)))))) ∧
  (∀ b : HeaderBytes,
    (b.b1 = 0xA0 → decodeInstr b = .ok (.serverErrorInternal (hdrFields b))) ∧
    (b.b1 = 0xA1 → decodeInstr b = .ok (.serverErrorNotImplemented (hdrFields b))) ∧
    (0xA2 ≤ b.b1 → b.b1 ≤ 0xA3 → decodeInstr b = .ok (.serverErrorOther2To3 (hdrFields b) (extDetail5 b))) ∧
    (0xA4 ≤ b.b1 → b.b1 ≤ 0xA5 → decodeInstr b = .ok (.serverErrorOther4To5 (hdrFields b) (extDetail5 b)))) ∧
  decodeCode 5 0 = .ok (.serverError .internal) ∧
  decodeCode 5 1 = .ok (.serverError .notImplemented) ∧
  (∀ d : Byte, 2 ≤ d → d ≤ 5 → decodeCode 5 d = .ok (.serverError (.other d))) ∧
  classTable.serverError.ceiling = 5 ∧
  classTable.serverError.extra = []

/-- The invalid rows of class 5: their code bytes, and exec raises InvalidCode(5, d) and keeps all else.
(41_code_taxonomy.md R101) -/
def Obligations.ServerErrorInvalidRowsRaiseInvalidCode : Prop :=
  (∀ (f : HdrFields) (s : State),
    let raised (d : Byte) : State := { s with result := some (.err (.invalidCode 5 d)) }
    (∀ d : BitVec 5, 6 ≤ d → d ≤ 7 →
      exec (.invalidServerError6To7 f d) s = .next (raised (zextDetail d))) ∧
    (∀ d : BitVec 5, 8 ≤ d → d ≤ 15 →
      exec (.invalidServerError8To15 f d) s = .next (raised (zextDetail d))) ∧
    (∀ d : BitVec 5, 16 ≤ d → d ≤ 31 →
      exec (.invalidServerError16To31 f d) s = .next (raised (zextDetail d)))) ∧
  (∀ b : HeaderBytes,
    (0xA6 ≤ b.b1 → b.b1 ≤ 0xA7 → decodeInstr b = .ok (.invalidServerError6To7 (hdrFields b) (extDetail5 b))) ∧
    (0xA8 ≤ b.b1 → b.b1 ≤ 0xAF → decodeInstr b = .ok (.invalidServerError8To15 (hdrFields b) (extDetail5 b))) ∧
    (0xB0 ≤ b.b1 → b.b1 ≤ 0xBF → decodeInstr b = .ok (.invalidServerError16To31 (hdrFields b) (extDetail5 b)))) ∧
  (∀ d : Byte, 6 ≤ d → decodeCode 5 d = .err (.invalidCode 5 d)) ∧
  (31 ∈ classTable.success.extra ∧ 31 ∉ classTable.method.extra ∧ 31 ∉ classTable.clientError.extra ∧
    31 ∉ classTable.serverError.extra ∧ 31 ∉ classTable.signaling.extra)

/-- The valid rows of class 7: their code bytes, and exec returns Ok with the row's Signaling code and all else
kept. (41_code_taxonomy.md R103, 41_code_taxonomy.md R104, 41_code_taxonomy.md R105) -/
def Obligations.SignalingRowsReturnTheirCode : Prop :=
  (∀ (version : BitVec 2) (type : MsgType) (tokenLength : BitVec 4) (messageId : BitVec 16) (s : State),
    let f : HdrFields := { version, typeRaw := typeNumber type, tokenLength, messageId }
    let returned (q : RqCode) : State :=
      { s with result := some (.ok { version, type, tokenLength, code := q, messageId }) }
    exec (.signalingUnassigned f) s = .next (returned (.signaling .unassigned)) ∧
    exec (.signalingCsm f) s = .next (returned (.signaling .csm)) ∧
    (∀ d : BitVec 5, 2 ≤ d → d ≤ 3 →
      exec (.signalingOther2To3 f d) s = .next (returned (.signaling (.other (zextDetail d))))) ∧
    (∀ d : BitVec 5, 4 ≤ d → d ≤ 5 →
      exec (.signalingOther4To5 f d) s = .next (returned (.signaling (.other (zextDetail d)))))) ∧
  (∀ b : HeaderBytes,
    (b.b1 = 0xE0 → decodeInstr b = .ok (.signalingUnassigned (hdrFields b))) ∧
    (b.b1 = 0xE1 → decodeInstr b = .ok (.signalingCsm (hdrFields b))) ∧
    (0xE2 ≤ b.b1 → b.b1 ≤ 0xE3 → decodeInstr b = .ok (.signalingOther2To3 (hdrFields b) (extDetail5 b))) ∧
    (0xE4 ≤ b.b1 → b.b1 ≤ 0xE5 → decodeInstr b = .ok (.signalingOther4To5 (hdrFields b) (extDetail5 b)))) ∧
  decodeCode 7 0 = .ok (.signaling .unassigned) ∧
  decodeCode 7 1 = .ok (.signaling .csm) ∧
  (∀ d : Byte, 2 ≤ d → d ≤ 5 → decodeCode 7 d = .ok (.signaling (.other d))) ∧
  classTable.signaling.ceiling = 5 ∧
  classTable.signaling.extra = []

/-- The invalid rows of class 7: their code bytes, and exec raises InvalidCode(7, d) and keeps all else.
(41_code_taxonomy.md R106) -/
def Obligations.SignalingInvalidRowsRaiseInvalidCode : Prop :=
  (∀ (f : HdrFields) (s : State),
    let raised (d : Byte) : State := { s with result := some (.err (.invalidCode 7 d)) }
    (∀ d : BitVec 5, 6 ≤ d → d ≤ 7 →
      exec (.invalidSignaling6To7 f d) s = .next (raised (zextDetail d))) ∧
    (∀ d : BitVec 5, 8 ≤ d → d ≤ 15 →
      exec (.invalidSignaling8To15 f d) s = .next (raised (zextDetail d))) ∧
    (∀ d : BitVec 5, 16 ≤ d → d ≤ 31 →
      exec (.invalidSignaling16To31 f d) s = .next (raised (zextDetail d)))) ∧
  (∀ b : HeaderBytes,
    (0xE6 ≤ b.b1 → b.b1 ≤ 0xE7 → decodeInstr b = .ok (.invalidSignaling6To7 (hdrFields b) (extDetail5 b))) ∧
    (0xE8 ≤ b.b1 → b.b1 ≤ 0xEF → decodeInstr b = .ok (.invalidSignaling8To15 (hdrFields b) (extDetail5 b))) ∧
    (0xF0 ≤ b.b1 → b.b1 ≤ 0xFF → decodeInstr b = .ok (.invalidSignaling16To31 (hdrFields b) (extDetail5 b)))) ∧
  (∀ d : Byte, 6 ≤ d → decodeCode 7 d = .err (.invalidCode 7 d))

/-- Classes 1, 3 and 6 are rejected with every detail, and the error carries the raw pair. (41_code_taxonomy.md
R107, 30_encoding.md R50) -/
def Obligations.InvalidClassRowsRaiseInvalidCode : Prop :=
  (∀ (f : HdrFields) (d : BitVec 5) (s : State),
    let raised (c : BitVec 3) (d : Byte) : State := { s with result := some (.err (.invalidCode c d)) }
    exec (.invalidClass1 f d) s = .next (raised 1 (zextDetail d)) ∧
    exec (.invalidClass3 f d) s = .next (raised 3 (zextDetail d)) ∧
    exec (.invalidClass6 f d) s = .next (raised 6 (zextDetail d))) ∧
  (∀ b : HeaderBytes,
    (0x20 ≤ b.b1 → b.b1 ≤ 0x3F → decodeInstr b = .ok (.invalidClass1 (hdrFields b) (extDetail5 b))) ∧
    (0x60 ≤ b.b1 → b.b1 ≤ 0x7F → decodeInstr b = .ok (.invalidClass3 (hdrFields b) (extDetail5 b))) ∧
    (0xC0 ≤ b.b1 → b.b1 ≤ 0xDF → decodeInstr b = .ok (.invalidClass6 (hdrFields b) (extDetail5 b)))) ∧
  (∀ (s : State), extClass s.inputBytes = 1 ∨ extClass s.inputBytes = 3 ∨ extClass s.inputBytes = 6 →
    let e : DecodeError := .invalidCode (extClass s.inputBytes) (extDetail s.inputBytes)
    step s = .next { s with result := some (.err e) }) ∧
  (∀ (c : BitVec 3) (d : Byte), c = 1 ∨ c = 3 ∨ c = 6 → decodeCode c d = .err (.invalidCode c d)) ∧
  (∀ b : HeaderBytes, (extClass b = 1 ∨ extClass b = 3 ∨ extClass b = 6) ↔
    (0x20 ≤ b.b1 ∧ b.b1 ≤ 0x3F) ∨ (0x60 ≤ b.b1 ∧ b.b1 ≤ 0x7F) ∨ (0xC0 ≤ b.b1 ∧ b.b1 ≤ 0xDF))

/-- The general decode rule of a class: named variant, Other(d) unchanged, or InvalidCode(tag, d), exclusive and
exhaustive. (41_code_taxonomy.md R81) -/
def Obligations.ClassifyDetailHasThreeCases : Prop :=
  (∀ (ε : Type) (K : Config.ClassEntry ε) (other : Byte → ε) (d : Byte),
    (isNamed K d = true → ∃ e, (d, e) ∈ K.named ∧ classifyDetail K other d = .ok e) ∧
    (isNamed K d = false → (d ≤ K.ceiling ∨ d ∈ K.extra) → classifyDetail K other d = .ok (other d)) ∧
    (isNamed K d = false → ¬ d ≤ K.ceiling → d ∉ K.extra →
      classifyDetail K other d = .err (.invalidCode K.tag d))) ∧
  (∀ (c : BitVec 3) (d : Byte) (q : RqCode), decodeCode c d = .ok q →
    (isNamedVariant q = true ↔ namedInClassOf q d = true) ∧
    (isNamedVariant q = false ↔ validInClassOf q d = true ∧ namedInClassOf q d = false)) ∧
  (∀ q : RqCode, ∀ d : Byte,
    (∃ q', decodeCode (codeTag q) d = .ok q') ↔ validInClassOf q d = true)

/-- DecodeCode accepts exactly the pairs of the class table, keeps class and detail, and raises InvalidCode(c, d)
otherwise. (41_code_taxonomy.md R80, 41_code_taxonomy.md R109) -/
def Obligations.DecodeCodeFollowsTheClassTable : Prop :=
  (∀ (c : BitVec 3) (d : Byte),
    let accepted := (c = 0 ∧ d ≤ 7) ∨ (c = 2 ∧ (d ≤ 5 ∨ d = 31)) ∨ (c = 4 ∧ (d ≤ 9 ∨ d = 12 ∨ d = 13 ∨ d = 15)) ∨
      (c = 5 ∧ d ≤ 5) ∨ (c = 7 ∧ d ≤ 5)
    (accepted → ∃ q, decodeCode c d = .ok q ∧ codeTag q = c ∧ detailNumber q = d ∧
      (isNamedVariant q = true ↔ d ≤ 1 ∨ (c = 0 ∧ d = 2))) ∧
    (¬ accepted → decodeCode c d = .err (.invalidCode c d))) ∧
  decodeCode 0 0 = .ok (.method .empty) ∧ decodeCode 0 1 = .ok (.method .get) ∧ decodeCode 0 2 = .ok (.method .post) ∧
  decodeCode 2 0 = .ok (.success .created) ∧ decodeCode 2 1 = .ok (.success .deleted) ∧
  decodeCode 4 0 = .ok (.clientError .badRequest) ∧ decodeCode 4 1 = .ok (.clientError .unauthorized) ∧
  decodeCode 5 0 = .ok (.serverError .internal) ∧ decodeCode 5 1 = .ok (.serverError .notImplemented) ∧
  decodeCode 7 0 = .ok (.signaling .unassigned) ∧ decodeCode 7 1 = .ok (.signaling .csm) ∧
  (∀ d : Byte, (isNamed classTable.method d = true → isValid classTable.method d = true) ∧
    (isNamed classTable.success d = true → isValid classTable.success d = true) ∧
    (isNamed classTable.clientError d = true → isValid classTable.clientError d = true) ∧
    (isNamed classTable.serverError d = true → isValid classTable.serverError d = true) ∧
    (isNamed classTable.signaling d = true → isValid classTable.signaling d = true)) ∧
  classTable.method.extra = [] ∧ (∀ d ∈ classTable.success.extra, classTable.success.ceiling < d) ∧
  (∀ d ∈ classTable.clientError.extra, classTable.clientError.ceiling < d) ∧ classTable.serverError.extra = [] ∧
  classTable.signaling.extra = []

/-- A step returns Ok exactly when B[1] is one of the 40 valid code bytes, and InvalidCode otherwise. (40_extract.md
R76, 41_code_taxonomy.md R110, 30_encoding.md R51) -/
def Obligations.StepReturnsOkOnExactlyFortyCodeBytes : Prop :=
  let valid : List Byte :=
    [ 0x00, 0x01, 0x02, 0x03, 0x04, 0x05, 0x06, 0x07, 0x40, 0x41, 0x42, 0x43, 0x44, 0x45,
      0x5F, 0x80, 0x81, 0x82, 0x83, 0x84, 0x85, 0x86, 0x87, 0x88, 0x89, 0x8C, 0x8D, 0x8F,
      0xA0, 0xA1, 0xA2, 0xA3, 0xA4, 0xA5, 0xE0, 0xE1, 0xE2, 0xE3, 0xE4, 0xE5 ]
  valid.length = 40 ∧ valid.Nodup ∧
  ∀ s : State, ∃ t, step s = .next t ∧
    (s.inputBytes.b1 ∈ valid → ∃ h, t.result = some (.ok h)) ∧
    (s.inputBytes.b1 ∉ valid → ∃ c d, t.result = some (.err (.invalidCode c d)))

/-- From every state the table-driven step returns what the function DECODE computes from the four bytes, and
changes nothing else. (40_extract.md R75, 40_extract.md R76, 70_reset_and_hazards.md R160, 92_eei_decisions.md
D3) -/
def Obligations.StepIsTheDecodeFunction : Prop :=
  ∀ s : State, step s = .next { s with result := some (decodeHeader s.inputBytes) }

/-- Every step keeps the invariant: canonical input buffer, and only sound results. (44_construct.md R138,
60_exceptions.md R142, 20_memory.md R34, 10_state.md R21) -/
def Obligations.StepKeepsTheInvariant : Prop :=
  ∀ s t : State, Inv s → step s = .next t → Inv t

/-- The invariant holds at reset, and the host's presentation of any header keeps it and is what the block then
reads. (70_reset_and_hazards.md R160, 60_exceptions.md R153) -/
def Obligations.InvariantAtResetAndAfterPresentation : Prop :=
  Inv State.reset ∧ ∀ (s : State) (b : HeaderBytes), Inv s → Inv (s.present b) ∧ (s.present b).inputBytes = b

/-- No instruction writes the input buffer: every offset reads after as before, and evaluating twice is evaluating
once. (20_memory.md R34) -/
def Obligations.EvaluationWritesNoMemory : Prop :=
  (∀ (i : Instr) (s t : State), exec i s = .next t →
    t.mem = s.mem ∧ ∀ offset : Nat, memRead offset t = memRead offset s) ∧
  (∀ s t : State, step s = .next t → step t = .next t)

/-- Two states whose four input bytes agree give the same result, whatever was evaluated before. (20_memory.md R36) -/
def Obligations.ResultDependsOnTheInputBytesOnly : Prop :=
  ∀ s s' : State, (∀ offset < 4, memRead offset s = memRead offset s') →
    ∃ t t', step s = .next t ∧ step s' = .next t' ∧ t.result = t'.result

/-- In any sequence of evaluations each result is DECODE of its own header, in every order, and no error sticks.
(20_memory.md R36, 60_exceptions.md R148, 70_reset_and_hazards.md R164, 95_test_vectors.md section 4) -/
def Obligations.SessionResultsAreDecodeOfEachHeader : Prop :=
  ∀ (headers : List HeaderBytes) (s : State),
    sessionResults headers s = headers.map (fun b => some (decodeHeader b)) ∧
    (∀ b, (sessionEnd (headers ++ [b]) s).inputBytes = b ∧
      (sessionEnd (headers ++ [b]) s).result = some (decodeHeader b)) ∧
    ∀ (headers' : List HeaderBytes) (s' : State), headers.Perm headers' →
      (sessionResults headers s).Perm (sessionResults headers' s')

/-- An error is InvalidCode of the raw class and detail, from which the code byte can be rebuilt. (60_exceptions.md
R142, 60_exceptions.md R141, 92_eei_decisions.md D9) -/
def Obligations.ErrorCarriesTheWholeCodeByte : Prop :=
  ∀ (s t : State) (e : DecodeError), step s = .next t → t.result = some (.err e) →
    ∃ c d, e = .invalidCode c d ∧ c = extClass s.inputBytes ∧ d = extDetail s.inputBytes ∧ d ≤ 31 ∧
      s.inputBytes.b1 = (c.setWidth 8 <<< 5) ||| d ∧ decodeCode c d = .err (.invalidCode c d)

/-- On a valid input the Header ports are plain wires from hdr_in, ok = 1, err_kind = 0, and the error ports carry
nothing. (40_extract.md R77, 10_state.md R26, 92_eei_decisions.md D4) -/
def Obligations.PortsOfAnAcceptedHeader : Prop :=
  ∀ (s : State) (q : RqCode), decodeCode (extClass s.inputBytes) (extDetail s.inputBytes) = .ok q →
    s.ports =
      { ok := 1, errKind := 0,
        header := some
          { version := s.hdrIn.extractLsb' 30 2, mtype := s.hdrIn.extractLsb' 28 2,
            tokenLength := s.hdrIn.extractLsb' 24 4, codeClass := s.hdrIn.extractLsb' 21 3,
            codeDetail := (s.hdrIn.extractLsb' 16 5).setWidth 8,
            codeNamed := if namedInClassOf q (extDetail s.inputBytes) = true then 1 else 0,
            messageId := s.hdrIn.extractLsb' 0 16 },
        errType := none, errClass := none, errDetail := none }

/-- On an invalid code ok = 0, err_kind = 2, the error ports carry the raw pair, and no Header port carries
anything. (40_extract.md R77, 60_exceptions.md R146, 92_eei_decisions.md D7) -/
def Obligations.PortsOfARejectedHeader : Prop :=
  ∀ (s : State) (e : DecodeError), decodeCode (extClass s.inputBytes) (extDetail s.inputBytes) = .err e →
    s.ports =
      { ok := 0, errKind := 2, header := none, errType := none, errClass := some (s.hdrIn.extractLsb' 21 3),
        errDetail := some ((s.hdrIn.extractLsb' 16 5).setWidth 8) }

/-- At every moment the output ports are those of DECODE of the input, before and after the step, and agree with the
result. (10_state.md R28, 70_reset_and_hazards.md R160, 10_state.md R26) -/
def Obligations.PortsFollowTheInput : Prop :=
  ∀ s : State, ∃ t r, step s = .next t ∧ t.result = some r ∧ t.ports = s.ports ∧ s.ports = portsOf r ∧
    s.ports.errKind ≠ 3 ∧ (s.ports.ok = 1 ↔ s.ports.errKind = 0) ∧ (s.ports.ok = 1 ↔ s.ports.header.isSome = true)

/-- The triple code_class, code_named, code_detail determines the code, and for decoded codes the pair alone does.
(10_state.md R27, 92_eei_decisions.md D16) -/
def Obligations.CodePortsCarryEveryCode : Prop :=
  (∀ q : RqCode, codeOfPorts (codeTag q) (codeNamedPort q) (detailNumber q) = some q) ∧
  (∀ (b b' : HeaderBytes) (h h' : Header), decodeHeader b = .ok h → decodeHeader b' = .ok h' →
    codeTag h.code = codeTag h'.code → detailNumber h.code = detailNumber h'.code →
    h.code = h'.code ∧ codeNamedPort h.code = codeNamedPort h'.code)

/-- DetailNumber gives the fixed numbers and Other(v) gives v unchecked; TypeNumber is the inverse of MsgTypeOfRaw
on 0..3. (42_code_encode.md R121, 42_code_encode.md R122) -/
def Obligations.EncodeNumbersOfDetailsAndTypes : Prop :=
  detailNumber (.method .empty) = 0 ∧ detailNumber (.method .get) = 1 ∧ detailNumber (.method .post) = 2 ∧
  detailNumber (.success .created) = 0 ∧ detailNumber (.success .deleted) = 1 ∧
  detailNumber (.clientError .badRequest) = 0 ∧ detailNumber (.clientError .unauthorized) = 1 ∧
  detailNumber (.serverError .internal) = 0 ∧ detailNumber (.serverError .notImplemented) = 1 ∧
  detailNumber (.signaling .unassigned) = 0 ∧ detailNumber (.signaling .csm) = 1 ∧
  (∀ v : Byte, detailNumber (.method (.other v)) = v ∧ detailNumber (.success (.other v)) = v ∧
    detailNumber (.clientError (.other v)) = v ∧ detailNumber (.serverError (.other v)) = v ∧
    detailNumber (.signaling (.other v)) = v) ∧
  typeNumber .confirmable = 0 ∧ typeNumber .nonConfirmable = 1 ∧ typeNumber .acknowledgment = 2 ∧
  typeNumber .reset = 3 ∧
  (∀ type : MsgType, msgTypeOfRaw (zextType (typeNumber type)) = .ok type) ∧
  (∀ (raw : BitVec 2) (type : MsgType), msgTypeOfRaw (zextType raw) = .ok type → typeNumber type = raw)

/-- Of a valid code the number fits five bits and the code byte is 32 * tag + number, the byte the extractions take
apart. (42_code_encode.md R123, 42_code_encode.md R128) -/
def Obligations.CodeByteIsTagThenNumber : Prop :=
  ∀ (q : RqCode) (valid : CodeValid q), (detailNumber q).toNat ≤ 31 ∧
    (codeByte q valid).toNat = 32 * (codeTag q).toNat + (detailNumber q).toNat ∧
    ∀ b : HeaderBytes, b.b1 = codeByte q valid → extClass b = codeTag q ∧ extDetail b = detailNumber q

/-- ENCODE of a valid header puts version, type, token length, code and message id where the layout has them.
(42_code_encode.md R124, 42_code_encode.md R127) -/
def Obligations.EncodedHeaderBytes : Prop :=
  ∀ (h : Header) (valid : HeaderValid h),
    let b := encodeHeader h valid
    b.b0.toNat = 64 * h.version.toNat + 16 * (typeNumber h.type).toNat + h.tokenLength.toNat ∧
    b.b1 = codeByte h.code valid ∧
    b.b2.toNat = h.messageId.toNat / 256 ∧ b.b3.toNat = h.messageId.toNat % 256 ∧
    extVersion b = h.version ∧ extType b = typeNumber h.type ∧ extTkl b = h.tokenLength ∧ extMid b = h.messageId

/-- Encode undoes decode: on every accepted pair, and on every four bytes that decode to a header.
(42_code_encode.md section 3 (R125 a and b), 42_code_encode.md R127) -/
def Obligations.EncodingADecodedHeaderGivesItsBytes : Prop :=
  (∀ (c : BitVec 3) (d : Byte) (q : RqCode), decodeCode c d = .ok q →
    codeTag q = c ∧ detailNumber q = d ∧ ∃ valid : CodeValid q,
      codeByte q valid = (c.setWidth 8 <<< 5) ||| d ∧
      decodeCode (extClass { b0 := 0, b1 := codeByte q valid, b2 := 0, b3 := 0 })
        (extDetail { b0 := 0, b1 := codeByte q valid, b2 := 0, b3 := 0 }) = .ok q) ∧
  (∀ (b : HeaderBytes) (h : Header), decodeHeader b = .ok h → ∃ valid : HeaderValid h, encodeHeader h valid = b)

/-- Decode undoes encode on every valid canonical header, and the machine running those bytes returns that header.
(42_code_encode.md section 3 (R125 c), 44_construct.md R137) -/
def Obligations.DecodingAnEncodedCanonicalHeader : Prop :=
  ∀ (h : Header) (valid : HeaderValid h), HeaderCanonical h → decodeHeader (encodeHeader h valid) = .ok h ∧
    ∀ s : State, ∃ t, step (s.present (encodeHeader h valid)) = .next t ∧ t.result = some (.ok h)

/-- A valid code that is not canonical encodes to a byte that decodes to a different, named code with the same
number. (44_construct.md R137, 92_eei_decisions.md D13) -/
def Obligations.NonCanonicalCodeComesBackNamed : Prop :=
  ∀ (q : RqCode) (valid : CodeValid q), ¬ CodeCanonical q →
    ∃ q', decodeCode (codeTag q) (detailNumber q) = .ok q' ∧ isNamedVariant q' = true ∧ q' ≠ q ∧
      ∃ valid' : CodeValid q', codeByte q' valid' = codeByte q valid

/-- CONSTRUCT takes its operands as they are, and a constructed header is invalid exactly when its code is Other out
of range. (44_construct.md R135) -/
def Obligations.ConstructChecksNothing : Prop :=
  (∀ (version : BitVec 2) (type : MsgType) (tokenLength : BitVec 4) (code : RqCode) (messageId : BitVec 16),
    construct version type tokenLength code messageId = { version, type, tokenLength, code, messageId } ∧
    (¬ HeaderValid (construct version type tokenLength code messageId) ↔
      ∃ v : Byte,
        (code = .method (.other v) ∧ ¬ v ≤ 7) ∨
        (code = .success (.other v) ∧ ¬ (v ≤ 5 ∨ v = 31)) ∨
        (code = .clientError (.other v) ∧ ¬ (v ≤ 9 ∨ v = 12 ∨ v = 13 ∨ v = 15)) ∨
        (code = .serverError (.other v) ∧ ¬ v ≤ 5) ∨
        (code = .signaling (.other v) ∧ ¬ v ≤ 5))) ∧
  decodeHeader { b0 := 0x40, b1 := 0x01, b2 := 0x00, b3 := 0x01 } =
    .ok (construct 1 .confirmable 0 (.method .get) 1)

/-- Every header a step returns is valid and canonical. (44_construct.md R138, 10_state.md R21) -/
def Obligations.DecodedHeadersAreValidAndCanonical : Prop :=
  ∀ (s t : State) (h : Header), step s = .next t → t.result = some (.ok h) →
    HeaderValid h ∧ HeaderCanonical h ∧ codeTag h.code = extClass s.inputBytes ∧
      detailNumber h.code = extDetail s.inputBytes

/-- RENDER gives five lines in the order version, type, token length, code, message id, the code as class name,
space, variant.  The names of all four types, of all eleven named variants and of `Other` in each class are given, and
what `decimal` is.  The labels, the separators, the line feed at the end and the decimal numbers are the spec's own
choice D14 (log entry 13). (43_render.md R130, 43_render.md R131, 43_render.md R132, 92_eei_decisions.md D14) -/
def Obligations.RenderedTextOfAHeader : Prop :=
  (∀ h : Header, renderHeader h =
    "Version: " ++ decimal h.version.toNat ++ "\n" ++ "Type: " ++ typeName h.type ++ "\n" ++
    "Token length: " ++ decimal h.tokenLength.toNat ++ "\n" ++ "Code: " ++ renderCode h.code ++ "\n" ++
    "Message ID: " ++ decimal h.messageId.toNat ++ "\n") ∧
  (typeName .confirmable = "Confirmable" ∧ typeName .nonConfirmable = "NonConfirmable" ∧
    typeName .acknowledgment = "Acknowledgment" ∧ typeName .reset = "Reset") ∧
  (renderCode (.method .empty) = "Method Empty" ∧ renderCode (.method .get) = "Method Get" ∧
    renderCode (.method .post) = "Method Post" ∧
    renderCode (.success .created) = "Success Created" ∧ renderCode (.success .deleted) = "Success Deleted" ∧
    renderCode (.clientError .badRequest) = "ClientError BadRequest" ∧
    renderCode (.clientError .unauthorized) = "ClientError Unauthorized" ∧
    renderCode (.serverError .internal) = "ServerError Internal" ∧
    renderCode (.serverError .notImplemented) = "ServerError NotImplemented" ∧
    renderCode (.signaling .unassigned) = "Signaling Unassigned" ∧ renderCode (.signaling .csm) = "Signaling CSM") ∧
  (∀ v : Byte, renderCode (.method (.other v)) = "Method Other(" ++ decimal v.toNat ++ ")" ∧
    renderCode (.success (.other v)) = "Success Other(" ++ decimal v.toNat ++ ")" ∧
    renderCode (.clientError (.other v)) = "ClientError Other(" ++ decimal v.toNat ++ ")" ∧
    renderCode (.serverError (.other v)) = "ServerError Other(" ++ decimal v.toNat ++ ")" ∧
    renderCode (.signaling (.other v)) = "Signaling Other(" ++ decimal v.toNat ++ ")") ∧
  (decimal 0 = "0" ∧ decimal 1 = "1" ∧ decimal 2 = "2" ∧ decimal 3 = "3" ∧ decimal 4 = "4" ∧
    decimal 5 = "5" ∧ decimal 6 = "6" ∧ decimal 7 = "7" ∧ decimal 8 = "8" ∧ decimal 9 = "9") ∧
  (∀ n : Nat, 10 ≤ n → decimal n = decimal (n / 10) ++ decimal (n % 10))

/-- MemRead is B[i] at the offsets 0 to 3 (20_memory.md R30, 00_scope.md R8), and no step stops on a read.  The rules say
only that MemRead is defined for no other offset; that the model's `memRead` FAULTS there, with `noSuchOffset`, is the
model's choice (log entry 20, DESIGN CHOICE), not a rule of the spec. -/
def Obligations.ReadsExistAtFourOffsetsOnly : Prop :=
  ∀ s : State,
    memRead 0 s = .ok s.inputBytes.b0 ∧ memRead 1 s = .ok s.inputBytes.b1 ∧
    memRead 2 s = .ok s.inputBytes.b2 ∧ memRead 3 s = .ok s.inputBytes.b3 ∧
    (∀ offset : Nat, 4 ≤ offset → memRead offset s = .error (.noSuchOffset offset)) ∧
    Returns s

/-- At reset nothing is listed and no result exists, and the first header presented is decoded with nothing
initialised. (70_reset_and_hazards.md R160, 70_reset_and_hazards.md R161, 70_reset_and_hazards.md R162) -/
def Obligations.ResetNeedsNothingInitialised : Prop :=
  State.reset.mem = [] ∧ State.reset.result = none ∧
  ∀ b : HeaderBytes, ∃ t, step (State.reset.present b) = .next t ∧ t.result = some (decodeHeader b)
end

