-- ==== Sys2Proof/Laws/State.lean ====
section
/-! SUPPORT. What each update of the state does to each field. -/

namespace Sys2Proof.Machine

@[simp] theorem present_mem (s : State) (b : HeaderBytes) : (s.present b).mem = Memory.ofBytes b := rfl
@[simp] theorem present_result (s : State) (b : HeaderBytes) : (s.present b).result = s.result := rfl
@[simp] theorem returnHeader_mem (h : Header) (s : State) : (returnHeader h s).mem = s.mem := rfl
@[simp] theorem returnHeader_result (h : Header) (s : State) : (returnHeader h s).result = some (.ok h) := rfl
@[simp] theorem raiseError_mem (e : DecodeError) (s : State) : (raiseError e s).mem = s.mem := rfl
@[simp] theorem raiseError_result (e : DecodeError) (s : State) : (raiseError e s).result = some (.err e) := rfl
@[simp] theorem reset_mem : State.reset.mem = [] := rfl
@[simp] theorem reset_result : State.reset.result = none := rfl
@[simp] theorem withFetchWord_eq (s : State) (nbits w : Nat) :
    s.withFetchWord nbits w = s.present (tableBytes nbits w) := rfl

end Sys2Proof.Machine
end

