-- ==== Sys2Proof/Laws/Memory.lean ====
section
/-! SUPPORT. The laws of the input buffer: what a presentation stores is what is read, the canonical form is kept, and
a canonical buffer is determined by its four bytes. -/

namespace Sys2Proof.Machine

theorem byteAt_cons (a : Nat) (v : Byte) (m : Memory) (offset : Nat) :
    Memory.byteAt ((a, v) :: m) offset = if offset = a then v else m.byteAt offset := by
  unfold Memory.byteAt
  by_cases h : offset = a
  · simp [h]
  · simp [h, List.lookup_cons]
    rw [show (offset == a) = false by simpa using h]

@[simp] theorem byteAt_nil (offset : Nat) : Memory.byteAt [] offset = Memory.unlisted := rfl

/-- A byte that is presented reads back, and the other offsets are those of the rest. -/
theorem byteAt_filter_cons (a : Nat) (v : Byte) (m : Memory) (offset : Nat)
    (hm : ∀ c ∈ m, c.1 ≠ a) :
    Memory.byteAt (((a, v) :: m).filter (fun c => c.2 != Memory.unlisted)) offset =
      if offset = a then v else Memory.byteAt (m.filter (fun c => c.2 != Memory.unlisted)) offset := by
  by_cases hv : v = Memory.unlisted
  · subst hv
    rw [List.filter_cons_of_neg (by simp)]
    split
    · rename_i h
      subst h
      unfold Memory.byteAt
      rw [List.lookup_eq_none_iff.mpr]
      intro p hp
      have := hm p (List.mem_of_mem_filter hp)
      simpa using fun h => this h.symm
    · rfl
  · rw [List.filter_cons_of_pos (by simpa using hv), byteAt_cons]

theorem byteAt_ofBytes (b : HeaderBytes) (offset : Nat) :
    (Memory.ofBytes b).byteAt offset =
      if offset = 0 then b.b0 else if offset = 1 then b.b1 else if offset = 2 then b.b2
      else if offset = 3 then b.b3 else Memory.unlisted := by
  unfold Memory.ofBytes
  rw [byteAt_filter_cons _ _ _ _ (by simp), byteAt_filter_cons _ _ _ _ (by simp),
    byteAt_filter_cons _ _ _ _ (by simp), byteAt_filter_cons _ _ _ _ (by simp)]
  rfl

/-- Read after presentation: the input bytes are the bytes presented. -/
@[simp] theorem inputBytes_present (s : State) (b : HeaderBytes) : (s.present b).inputBytes = b := by
  simp [State.inputBytes, byteAt_ofBytes]

/-- Every presentation leaves the buffer in canonical form. -/
theorem ofBytes_wf (b : HeaderBytes) : (Memory.ofBytes b).wf := by
  constructor
  · exact List.Pairwise.filter _ (by simp)
  · intro c hc
    simp only [Memory.ofBytes, List.mem_filter] at hc
    obtain ⟨hm, hv⟩ := hc
    refine ⟨?_, by simpa using hv⟩
    simp only [List.mem_cons, List.not_mem_nil, or_false] at hm
    rcases hm with rfl | rfl | rfl | rfl <;> simp [Config.hdrBytes]

theorem byteAt_below {m : Memory} {offset : Nat} (h : ∀ c ∈ m, offset < c.1) :
    m.byteAt offset = Memory.unlisted := by
  unfold Memory.byteAt
  rw [List.lookup_eq_none_iff.mpr]
  intro p hp
  have := h p hp
  simpa using Nat.ne_of_lt this

theorem wf_tail {c : Host.Cell} {m : Memory} (h : Memory.wf (c :: m)) : Memory.wf m :=
  ⟨h.1.of_cons, fun x hx => h.2 x (List.mem_cons_of_mem _ hx)⟩

theorem wf_rising {c : Host.Cell} {m : Memory} (h : Memory.wf (c :: m)) : ∀ x ∈ m, c.1 < x.1 :=
  (List.pairwise_cons.mp h.1).1

/-- A canonical buffer is determined by what its offsets read as: equal contents are equal data. -/
theorem wf_ext {m m' : Memory} (h : m.wf) (h' : m'.wf) (hr : ∀ offset, m.byteAt offset = m'.byteAt offset) :
    m = m' := by
  induction m generalizing m' with
  | nil =>
    cases m' with
    | nil => rfl
    | cons c m' =>
      have := hr c.1
      rw [byteAt_nil, byteAt_cons, if_pos rfl] at this
      exact absurd this.symm (h'.2 c (List.mem_cons_self ..)).2
  | cons c m ih =>
    cases m' with
    | nil =>
      have := hr c.1
      rw [byteAt_nil, byteAt_cons, if_pos rfl] at this
      exact absurd this (h.2 c (List.mem_cons_self ..)).2
    | cons c' m' =>
      obtain ⟨a, v⟩ := c
      obtain ⟨a', v'⟩ := c'
      have hlow := wf_rising h
      have hlow' := wf_rising h'
      have hv := (h.2 _ (List.mem_cons_self ..)).2
      have hv' := (h'.2 _ (List.mem_cons_self ..)).2
      have ha := hr a
      have ha' := hr a'
      rw [byteAt_cons, byteAt_cons, if_pos rfl] at ha
      rw [byteAt_cons, byteAt_cons, if_pos rfl] at ha'
      rcases Nat.lt_trichotomy a a' with hlt | rfl | hlt
      · rw [if_neg (by omega), byteAt_below fun x hx => Nat.lt_trans hlt (hlow' x hx)] at ha
        exact absurd ha hv
      · rw [if_pos rfl] at ha
        subst ha
        rw [ih (wf_tail h) (wf_tail h')]
        intro offset
        have hoff := hr offset
        rw [byteAt_cons, byteAt_cons] at hoff
        by_cases ho : offset = a
        · subst ho
          rw [byteAt_below hlow, byteAt_below hlow']
        · rwa [if_neg ho, if_neg ho] at hoff
      · rw [if_neg (by omega), byteAt_below fun x hx => Nat.lt_trans hlt (hlow x hx)] at ha'
        exact absurd ha'.symm hv'

theorem reset_mem_wf : State.reset.mem.wf := by decide

end Sys2Proof.Machine
end

