-- ==== Sys2Proof/Laws/Ops.lean ====
section
/-! SUPPORT. One lemma per shared operation, saying all it can do, for the proofs to cite. -/

namespace Sys2Proof.Machine

theorem memRead_inside {offset : Nat} (h : offset < 4) (s : State) : memRead offset s = .ok (s.mem.byteAt offset) :=
  if_pos h

theorem memRead_outside {offset : Nat} (h : 4 ≤ offset) (s : State) :
    memRead offset s = .error (.noSuchOffset offset) := if_neg (Nat.not_lt.mpr h)

/-- The reads of an evaluation always succeed. -/
@[simp] theorem fetch_eq (s : State) : fetch s = .ok s.inputBytes := rfl

/-- On the raw type of the wire the validator never raises: each 2-bit value is the number of its message type. -/
theorem msgTypeOfRaw_typeNumber (type : MsgType) : msgTypeOfRaw (zextType (typeNumber type)) = .ok type := by
  cases type <;> rfl

theorem exists_typeNumber (t : BitVec 2) : ∃ type, t = typeNumber type := by
  rcases (by decide : ∀ t : BitVec 2, t = 0 ∨ t = 1 ∨ t = 2 ∨ t = 3) t with rfl | rfl | rfl | rfl
  exacts [⟨.confirmable, rfl⟩, ⟨.nonConfirmable, rfl⟩, ⟨.acknowledgment, rfl⟩, ⟨.reset, rfl⟩]

/-- The result an evaluation's end leaves. -/
theorem conclude_eq (f : HdrFields) (code : Decoded RqCode) (s : State) :
    conclude f code s = .next
      { s with result := some (assemble f.version (zextType f.typeRaw) f.tokenLength code f.messageId) } := by
  unfold conclude
  cases assemble f.version (zextType f.typeRaw) f.tokenLength code f.messageId <;> rfl

/-- All that an evaluation's end can do: return a header with the row's code, or raise the row's error. -/
theorem conclude_cases (f : HdrFields) (code : Decoded RqCode) (s : State) :
    ∃ type, f.typeRaw = typeNumber type ∧
      ((∃ q, code = .ok q ∧ conclude f code s = .next
          (returnHeader ⟨f.version, type, f.tokenLength, q, f.messageId⟩ s)) ∨
        ∃ e, code = .err e ∧ conclude f code s = .next (raiseError e s)) := by
  obtain ⟨type, ht⟩ := exists_typeNumber f.typeRaw
  refine ⟨type, ht, ?_⟩
  cases code with
  | ok q => exact .inl ⟨q, rfl, by simp [conclude, assemble, ht, msgTypeOfRaw_typeNumber]⟩
  | err e => exact .inr ⟨e, rfl, by simp [conclude, assemble, ht, msgTypeOfRaw_typeNumber]⟩

end Sys2Proof.Machine
end

