-- ==== Sys2Proof/Laws/Decode.lean ====
section
/-! SUPPORT. The row of a header word depends on its code byte only, and the fields of an encoded instruction are the
instruction's. -/

namespace Sys2Proof

/-- The header word with a given code byte and every other byte zero. -/
def codeWord (c : Byte) : Word := HeaderBytes.toWord ⟨0, c, 0, 0⟩

/-- No row looks at anything but the code byte: every mask lies in the bits 23 to 16. -/
theorem masks_in_codeByte : ∀ r ∈ opTable, r.mask = codeWord (r.mask.extractLsb' 16 8) := by decide

theorem and_append4 (a b c d a' b' c' d' : Byte) :
    ((a ++ b ++ c ++ d) &&& (a' ++ b' ++ c' ++ d') : BitVec (8 + 8 + 8 + 8)) =
      (a &&& a') ++ (b &&& b') ++ (c &&& c') ++ (d &&& d') := by
  rw [BitVec.and_append, BitVec.and_append, BitVec.and_append]

theorem toWord_and_codeWord (b : HeaderBytes) (m : Byte) :
    b.toWord &&& codeWord m = codeWord b.b1 &&& codeWord m := by
  refine (and_append4 b.b0 b.b1 b.b2 b.b3 0 m 0 0).trans (Eq.trans ?_ (and_append4 0 b.b1 0 0 0 m 0 0).symm)
  simp only [show ∀ x : Byte, x &&& 0 = 0 from fun _ => BitVec.and_zero]

theorem accepts_codeByte {r : OpRow} (hr : r ∈ opTable) (b : HeaderBytes) :
    r.accepts b.toWord = r.accepts (codeWord b.b1) := by
  unfold OpRow.accepts
  rw [masks_in_codeByte r hr, toWord_and_codeWord]

theorem rowOf_eq_codeRow (b : HeaderBytes) : rowOf b.toWord = rowOf (codeWord b.b1) := by
  unfold rowOf
  refine List.find?_congr ?_
  intro r hr
  exact accepts_codeByte hr b

/-- Two different rows differ in a bit that both of them fix. -/
theorem rows_conflict : opTable.Pairwise (fun r r' => r.pattern &&& r'.mask ≠ r'.pattern &&& r.mask) := by
  decide

/-- So two different rows accept no common word. -/
theorem rows_disjoint : opTable.Pairwise (fun r r' => ∀ w, ¬ (r.accepts w = true ∧ r'.accepts w = true)) := by
  refine rows_conflict.imp fun {r r'} hne w hw => hne ?_
  simp only [OpRow.accepts, beq_iff_eq] at hw
  rw [← hw.1, ← hw.2, BitVec.and_assoc, BitVec.and_assoc, BitVec.and_comm r.mask]

/-- The decoder on a code byte whose row is known. -/
theorem decodeInstr_of_row {b : HeaderBytes} {r : OpRow} (h : rowOf (codeWord b.b1) = some r) :
    decodeInstr b = .ok (r.build (Machine.hdrFields b) (Machine.extDetail5 b)) := by
  unfold decodeInstr
  rw [rowOf_eq_codeRow, h]

/-- A search in a list is the entry at the first index that passes. -/
theorem find?_eq_getElem?_findIdx {α : Type} (p : α → Bool) (l : List α) : l.find? p = l[l.findIdx p]? := by
  induction l with
  | nil => rfl
  | cons a l ih =>
    rw [List.find?_cons, List.findIdx_cons]
    cases p a <;> simp [ih]

/-- The position in the table of a code byte's row. -/
def rowIndex (c : Byte) : Nat := opTable.findIdx (fun r => r.accepts (codeWord c))

/-- The decoder on a code byte whose row's position is known (the position is found by `decide`). -/
theorem decodeInstr_of_index (b : HeaderBytes) {k : Nat} {r : OpRow} (hk : rowIndex b.b1 = k)
    (hr : opTable[k]? = some r) : decodeInstr b = .ok (r.build (Machine.hdrFields b) (Machine.extDetail5 b)) := by
  refine decodeInstr_of_row (Eq.trans ?_ hr)
  rw [← hk]
  exact find?_eq_getElem?_findIdx _ _

theorem toNat_append_eq {w n : Nat} (x : BitVec w) (y : BitVec n) : (x ++ y).toNat = x.toNat * 2 ^ n + y.toNat := by
  rw [BitVec.toNat_append, ← Nat.shiftLeft_add_eq_or_of_lt y.isLt, Nat.shiftLeft_eq]

/-- The header word as a number, byte 0 most significant. -/
theorem toWord_toNat (b : HeaderBytes) :
    b.toWord.toNat = ((b.b0.toNat * 2 ^ 8 + b.b1.toNat) * 2 ^ 8 + b.b2.toNat) * 2 ^ 8 + b.b3.toNat := by
  have h : ∀ x y z u : Byte, (x ++ y ++ z ++ u : BitVec (8 + 8 + 8 + 8)).toNat =
      ((x.toNat * 2 ^ 8 + y.toNat) * 2 ^ 8 + z.toNat) * 2 ^ 8 + u.toNat := by
    intro x y z u
    rw [toNat_append_eq, toNat_append_eq, toNat_append_eq]
  exact h b.b0 b.b1 b.b2 b.b3

/-- The packing of the header word loses nothing. -/
theorem toWord_ofWord (w : Word) : (HeaderBytes.ofWord w).toWord = w := by
  apply BitVec.eq_of_toNat_eq
  rw [toWord_toNat]
  have := w.isLt
  simp only [HeaderBytes.ofWord, BitVec.toNat_setWidth, BitVec.toNat_ushiftRight, Nat.shiftRight_eq_div_pow]
  omega

end Sys2Proof
end

