-- ==== Sys2Proof/Laws/Outcome.lean ====
section
/-! SUPPORT. What every instruction does, said once: the code outcome of its row, and exec as the end of an evaluation
with that outcome. -/

namespace Sys2Proof.Machine

/-- The outcome column of the opcode table: the code of a valid row, the error of an invalid one. -/
def instrOutcome : Instr → Decoded RqCode
  | .methodEmpty _ => .ok (.method .empty)
  | .methodGet _ => .ok (.method .get)
  | .methodPost _ => .ok (.method .post)
  | .methodOther3 _ => .ok (.method (.other 3))
  | .methodOther4To7 _ d => .ok (.method (.other (zextDetail d)))
  | .invalidMethod8To15 _ d => .err (.invalidCode 0 (zextDetail d))
  | .invalidMethod16To31 _ d => .err (.invalidCode 0 (zextDetail d))
  | .invalidClass1 _ d => .err (.invalidCode 1 (zextDetail d))
  | .successCreated _ => .ok (.success .created)
  | .successDeleted _ => .ok (.success .deleted)
  | .successOther2To3 _ d => .ok (.success (.other (zextDetail d)))
  | .successOther4To5 _ d => .ok (.success (.other (zextDetail d)))
  | .invalidSuccess6To7 _ d => .err (.invalidCode 2 (zextDetail d))
  | .invalidSuccess8To15 _ d => .err (.invalidCode 2 (zextDetail d))
  | .invalidSuccess16To23 _ d => .err (.invalidCode 2 (zextDetail d))
  | .invalidSuccess24To27 _ d => .err (.invalidCode 2 (zextDetail d))
  | .invalidSuccess28To29 _ d => .err (.invalidCode 2 (zextDetail d))
  | .invalidSuccess30 _ => .err (.invalidCode 2 30)
  | .successOther31 _ => .ok (.success (.other 31))
  | .invalidClass3 _ d => .err (.invalidCode 3 (zextDetail d))
  | .clientErrorBadRequest _ => .ok (.clientError .badRequest)
  | .clientErrorUnauthorized _ => .ok (.clientError .unauthorized)
  | .clientErrorOther2To3 _ d => .ok (.clientError (.other (zextDetail d)))
  | .clientErrorOther4To7 _ d => .ok (.clientError (.other (zextDetail d)))
  | .clientErrorOther8To9 _ d => .ok (.clientError (.other (zextDetail d)))
  | .invalidClientError10To11 _ d => .err (.invalidCode 4 (zextDetail d))
  | .clientErrorOther12To13 _ d => .ok (.clientError (.other (zextDetail d)))
  | .invalidClientError14 _ => .err (.invalidCode 4 14)
  | .clientErrorOther15 _ => .ok (.clientError (.other 15))
  | .invalidClientError16To31 _ d => .err (.invalidCode 4 (zextDetail d))
  | .serverErrorInternal _ => .ok (.serverError .internal)
  | .serverErrorNotImplemented _ => .ok (.serverError .notImplemented)
  | .serverErrorOther2To3 _ d => .ok (.serverError (.other (zextDetail d)))
  | .serverErrorOther4To5 _ d => .ok (.serverError (.other (zextDetail d)))
  | .invalidServerError6To7 _ d => .err (.invalidCode 5 (zextDetail d))
  | .invalidServerError8To15 _ d => .err (.invalidCode 5 (zextDetail d))
  | .invalidServerError16To31 _ d => .err (.invalidCode 5 (zextDetail d))
  | .invalidClass6 _ d => .err (.invalidCode 6 (zextDetail d))
  | .signalingUnassigned _ => .ok (.signaling .unassigned)
  | .signalingCsm _ => .ok (.signaling .csm)
  | .signalingOther2To3 _ d => .ok (.signaling (.other (zextDetail d)))
  | .signalingOther4To5 _ d => .ok (.signaling (.other (zextDetail d)))
  | .invalidSignaling6To7 _ d => .err (.invalidCode 7 (zextDetail d))
  | .invalidSignaling8To15 _ d => .err (.invalidCode 7 (zextDetail d))
  | .invalidSignaling16To31 _ d => .err (.invalidCode 7 (zextDetail d))

theorem exec_eq_conclude (i : Instr) (s : State) : exec i s = conclude (instrFields i) (instrOutcome i) s := by
  cases i <;> rfl

/-- All that an instruction can do: it always answers a next state, which differs from the state only in the result,
and the result is that of the validations on the instruction's own fields and outcome. -/
theorem exec_eq (i : Instr) (s : State) :
    exec i s = .next { s with result := some (assemble (instrFields i).version (zextType (instrFields i).typeRaw)
      (instrFields i).tokenLength (instrOutcome i) (instrFields i).messageId) } := by
  rw [exec_eq_conclude, conclude_eq]

theorem exec_next_inv {i : Instr} {s t : State} (h : exec i s = .next t) :
    t.mem = s.mem ∧ t.result = some (assemble (instrFields i).version (zextType (instrFields i).typeRaw)
      (instrFields i).tokenLength (instrOutcome i) (instrFields i).messageId) := by
  rw [exec_eq] at h
  cases h
  exact ⟨rfl, rfl⟩

end Sys2Proof.Machine
end

