-- ==== Sys2Proof/Laws/PerInstr.lean ====
section
/-! SUPPORT. The per-instruction family RowOfEncoding: the encoded word of a well-formed instruction belongs to the
table row of that instruction's own mnemonic. -/

namespace Sys2Proof.Laws.RowOfEncoding

/-- The first row that accepts the encoded word is the row of the instruction's mnemonic. -/
def Statement (i : Instr) : Prop :=
  WellFormed i → (rowOf (encode i).toWord).map OpRow.mnemonic = some (instrMnemonic i)

/-- The mnemonic of the row of a code byte. -/
def mnemonicOf (c : Byte) : Option String := (rowOf (codeWord c)).map OpRow.mnemonic

theorem of_codeByte {i : Instr} (h : mnemonicOf (instrCodeByte i) = some (instrMnemonic i)) :
    (rowOf (encode i).toWord).map OpRow.mnemonic = some (instrMnemonic i) := by
  rw [rowOf_eq_codeRow]
  exact h

theorem methodEmpty (f : HdrFields) : Statement (.methodEmpty f) :=
  fun _ => of_codeByte (by decide : mnemonicOf (0b000#3 ++ 0b00000#5) = some "METHOD.EMPTY")

theorem methodGet (f : HdrFields) : Statement (.methodGet f) :=
  fun _ => of_codeByte (by decide : mnemonicOf (0b000#3 ++ 0b00001#5) = some "METHOD.GET")

theorem methodPost (f : HdrFields) : Statement (.methodPost f) :=
  fun _ => of_codeByte (by decide : mnemonicOf (0b000#3 ++ 0b00010#5) = some "METHOD.POST")

theorem methodOther3 (f : HdrFields) : Statement (.methodOther3 f) :=
  fun _ => of_codeByte (by decide : mnemonicOf (0b000#3 ++ 0b00011#5) = some "METHOD.OTHER.3")

theorem methodOther4To7 (f : HdrFields) (d : BitVec 5) : Statement (.methodOther4To7 f d) :=
  fun h => of_codeByte ((by decide : ∀ d : BitVec 5, inRange 4 7 d = true →
    mnemonicOf (0b000#3 ++ d) = some "METHOD.OTHER.4_7") d h)

theorem invalidMethod8To15 (f : HdrFields) (d : BitVec 5) : Statement (.invalidMethod8To15 f d) :=
  fun h => of_codeByte ((by decide : ∀ d : BitVec 5, inRange 8 15 d = true →
    mnemonicOf (0b000#3 ++ d) = some "INVALID.METHOD.8_15") d h)

theorem invalidMethod16To31 (f : HdrFields) (d : BitVec 5) : Statement (.invalidMethod16To31 f d) :=
  fun h => of_codeByte ((by decide : ∀ d : BitVec 5, inRange 16 31 d = true →
    mnemonicOf (0b000#3 ++ d) = some "INVALID.METHOD.16_31") d h)

theorem invalidClass1 (f : HdrFields) (d : BitVec 5) : Statement (.invalidClass1 f d) :=
  fun _ => of_codeByte ((by decide : ∀ d : BitVec 5,
    mnemonicOf (0b001#3 ++ d) = some "INVALID.CLASS1") d)

theorem successCreated (f : HdrFields) : Statement (.successCreated f) :=
  fun _ => of_codeByte (by decide : mnemonicOf (0b010#3 ++ 0b00000#5) = some "SUCCESS.CREATED")

theorem successDeleted (f : HdrFields) : Statement (.successDeleted f) :=
  fun _ => of_codeByte (by decide : mnemonicOf (0b010#3 ++ 0b00001#5) = some "SUCCESS.DELETED")

theorem successOther2To3 (f : HdrFields) (d : BitVec 5) : Statement (.successOther2To3 f d) :=
  fun h => of_codeByte ((by decide : ∀ d : BitVec 5, inRange 2 3 d = true →
    mnemonicOf (0b010#3 ++ d) = some "SUCCESS.OTHER.2_3") d h)

theorem successOther4To5 (f : HdrFields) (d : BitVec 5) : Statement (.successOther4To5 f d) :=
  fun h => of_codeByte ((by decide : ∀ d : BitVec 5, inRange 4 5 d = true →
    mnemonicOf (0b010#3 ++ d) = some "SUCCESS.OTHER.4_5") d h)

theorem invalidSuccess6To7 (f : HdrFields) (d : BitVec 5) : Statement (.invalidSuccess6To7 f d) :=
  fun h => of_codeByte ((by decide : ∀ d : BitVec 5, inRange 6 7 d = true →
    mnemonicOf (0b010#3 ++ d) = some "INVALID.SUCCESS.6_7") d h)

theorem invalidSuccess8To15 (f : HdrFields) (d : BitVec 5) : Statement (.invalidSuccess8To15 f d) :=
  fun h => of_codeByte ((by decide : ∀ d : BitVec 5, inRange 8 15 d = true →
    mnemonicOf (0b010#3 ++ d) = some "INVALID.SUCCESS.8_15") d h)

theorem invalidSuccess16To23 (f : HdrFields) (d : BitVec 5) : Statement (.invalidSuccess16To23 f d) :=
  fun h => of_codeByte ((by decide : ∀ d : BitVec 5, inRange 16 23 d = true →
    mnemonicOf (0b010#3 ++ d) = some "INVALID.SUCCESS.16_23") d h)

theorem invalidSuccess24To27 (f : HdrFields) (d : BitVec 5) : Statement (.invalidSuccess24To27 f d) :=
  fun h => of_codeByte ((by decide : ∀ d : BitVec 5, inRange 24 27 d = true →
    mnemonicOf (0b010#3 ++ d) = some "INVALID.SUCCESS.24_27") d h)

theorem invalidSuccess28To29 (f : HdrFields) (d : BitVec 5) : Statement (.invalidSuccess28To29 f d) :=
  fun h => of_codeByte ((by decide : ∀ d : BitVec 5, inRange 28 29 d = true →
    mnemonicOf (0b010#3 ++ d) = some "INVALID.SUCCESS.28_29") d h)

theorem invalidSuccess30 (f : HdrFields) : Statement (.invalidSuccess30 f) :=
  fun _ => of_codeByte (by decide : mnemonicOf (0b010#3 ++ 0b11110#5) = some "INVALID.SUCCESS.30")

theorem successOther31 (f : HdrFields) : Statement (.successOther31 f) :=
  fun _ => of_codeByte (by decide : mnemonicOf (0b010#3 ++ 0b11111#5) = some "SUCCESS.OTHER.31")

theorem invalidClass3 (f : HdrFields) (d : BitVec 5) : Statement (.invalidClass3 f d) :=
  fun _ => of_codeByte ((by decide : ∀ d : BitVec 5,
    mnemonicOf (0b011#3 ++ d) = some "INVALID.CLASS3") d)

theorem clientErrorBadRequest (f : HdrFields) : Statement (.clientErrorBadRequest f) :=
  fun _ => of_codeByte (by decide : mnemonicOf (0b100#3 ++ 0b00000#5) = some "CLIENTERROR.BADREQUEST")

theorem clientErrorUnauthorized (f : HdrFields) : Statement (.clientErrorUnauthorized f) :=
  fun _ => of_codeByte (by decide : mnemonicOf (0b100#3 ++ 0b00001#5) = some "CLIENTERROR.UNAUTHORIZED")

theorem clientErrorOther2To3 (f : HdrFields) (d : BitVec 5) : Statement (.clientErrorOther2To3 f d) :=
  fun h => of_codeByte ((by decide : ∀ d : BitVec 5, inRange 2 3 d = true →
    mnemonicOf (0b100#3 ++ d) = some "CLIENTERROR.OTHER.2_3") d h)

theorem clientErrorOther4To7 (f : HdrFields) (d : BitVec 5) : Statement (.clientErrorOther4To7 f d) :=
  fun h => of_codeByte ((by decide : ∀ d : BitVec 5, inRange 4 7 d = true →
    mnemonicOf (0b100#3 ++ d) = some "CLIENTERROR.OTHER.4_7") d h)

theorem clientErrorOther8To9 (f : HdrFields) (d : BitVec 5) : Statement (.clientErrorOther8To9 f d) :=
  fun h => of_codeByte ((by decide : ∀ d : BitVec 5, inRange 8 9 d = true →
    mnemonicOf (0b100#3 ++ d) = some "CLIENTERROR.OTHER.8_9") d h)

theorem invalidClientError10To11 (f : HdrFields) (d : BitVec 5) : Statement (.invalidClientError10To11 f d) :=
  fun h => of_codeByte ((by decide : ∀ d : BitVec 5, inRange 10 11 d = true →
    mnemonicOf (0b100#3 ++ d) = some "INVALID.CLIENTERROR.10_11") d h)

theorem clientErrorOther12To13 (f : HdrFields) (d : BitVec 5) : Statement (.clientErrorOther12To13 f d) :=
  fun h => of_codeByte ((by decide : ∀ d : BitVec 5, inRange 12 13 d = true →
    mnemonicOf (0b100#3 ++ d) = some "CLIENTERROR.OTHER.12_13") d h)

theorem invalidClientError14 (f : HdrFields) : Statement (.invalidClientError14 f) :=
  fun _ => of_codeByte (by decide : mnemonicOf (0b100#3 ++ 0b01110#5) = some "INVALID.CLIENTERROR.14")

theorem clientErrorOther15 (f : HdrFields) : Statement (.clientErrorOther15 f) :=
  fun _ => of_codeByte (by decide : mnemonicOf (0b100#3 ++ 0b01111#5) = some "CLIENTERROR.OTHER.15")

theorem invalidClientError16To31 (f : HdrFields) (d : BitVec 5) : Statement (.invalidClientError16To31 f d) :=
  fun h => of_codeByte ((by decide : ∀ d : BitVec 5, inRange 16 31 d = true →
    mnemonicOf (0b100#3 ++ d) = some "INVALID.CLIENTERROR.16_31") d h)

theorem serverErrorInternal (f : HdrFields) : Statement (.serverErrorInternal f) :=
  fun _ => of_codeByte (by decide : mnemonicOf (0b101#3 ++ 0b00000#5) = some "SERVERERROR.INTERNAL")

theorem serverErrorNotImplemented (f : HdrFields) : Statement (.serverErrorNotImplemented f) :=
  fun _ => of_codeByte (by decide : mnemonicOf (0b101#3 ++ 0b00001#5) = some "SERVERERROR.NOTIMPLEMENTED")

theorem serverErrorOther2To3 (f : HdrFields) (d : BitVec 5) : Statement (.serverErrorOther2To3 f d) :=
  fun h => of_codeByte ((by decide : ∀ d : BitVec 5, inRange 2 3 d = true →
    mnemonicOf (0b101#3 ++ d) = some "SERVERERROR.OTHER.2_3") d h)

theorem serverErrorOther4To5 (f : HdrFields) (d : BitVec 5) : Statement (.serverErrorOther4To5 f d) :=
  fun h => of_codeByte ((by decide : ∀ d : BitVec 5, inRange 4 5 d = true →
    mnemonicOf (0b101#3 ++ d) = some "SERVERERROR.OTHER.4_5") d h)

theorem invalidServerError6To7 (f : HdrFields) (d : BitVec 5) : Statement (.invalidServerError6To7 f d) :=
  fun h => of_codeByte ((by decide : ∀ d : BitVec 5, inRange 6 7 d = true →
    mnemonicOf (0b101#3 ++ d) = some "INVALID.SERVERERROR.6_7") d h)

theorem invalidServerError8To15 (f : HdrFields) (d : BitVec 5) : Statement (.invalidServerError8To15 f d) :=
  fun h => of_codeByte ((by decide : ∀ d : BitVec 5, inRange 8 15 d = true →
    mnemonicOf (0b101#3 ++ d) = some "INVALID.SERVERERROR.8_15") d h)

theorem invalidServerError16To31 (f : HdrFields) (d : BitVec 5) : Statement (.invalidServerError16To31 f d) :=
  fun h => of_codeByte ((by decide : ∀ d : BitVec 5, inRange 16 31 d = true →
    mnemonicOf (0b101#3 ++ d) = some "INVALID.SERVERERROR.16_31") d h)

theorem invalidClass6 (f : HdrFields) (d : BitVec 5) : Statement (.invalidClass6 f d) :=
  fun _ => of_codeByte ((by decide : ∀ d : BitVec 5,
    mnemonicOf (0b110#3 ++ d) = some "INVALID.CLASS6") d)

theorem signalingUnassigned (f : HdrFields) : Statement (.signalingUnassigned f) :=
  fun _ => of_codeByte (by decide : mnemonicOf (0b111#3 ++ 0b00000#5) = some "SIGNALING.UNASSIGNED")

theorem signalingCsm (f : HdrFields) : Statement (.signalingCsm f) :=
  fun _ => of_codeByte (by decide : mnemonicOf (0b111#3 ++ 0b00001#5) = some "SIGNALING.CSM")

theorem signalingOther2To3 (f : HdrFields) (d : BitVec 5) : Statement (.signalingOther2To3 f d) :=
  fun h => of_codeByte ((by decide : ∀ d : BitVec 5, inRange 2 3 d = true →
    mnemonicOf (0b111#3 ++ d) = some "SIGNALING.OTHER.2_3") d h)

theorem signalingOther4To5 (f : HdrFields) (d : BitVec 5) : Statement (.signalingOther4To5 f d) :=
  fun h => of_codeByte ((by decide : ∀ d : BitVec 5, inRange 4 5 d = true →
    mnemonicOf (0b111#3 ++ d) = some "SIGNALING.OTHER.4_5") d h)

theorem invalidSignaling6To7 (f : HdrFields) (d : BitVec 5) : Statement (.invalidSignaling6To7 f d) :=
  fun h => of_codeByte ((by decide : ∀ d : BitVec 5, inRange 6 7 d = true →
    mnemonicOf (0b111#3 ++ d) = some "INVALID.SIGNALING.6_7") d h)

theorem invalidSignaling8To15 (f : HdrFields) (d : BitVec 5) : Statement (.invalidSignaling8To15 f d) :=
  fun h => of_codeByte ((by decide : ∀ d : BitVec 5, inRange 8 15 d = true →
    mnemonicOf (0b111#3 ++ d) = some "INVALID.SIGNALING.8_15") d h)

theorem invalidSignaling16To31 (f : HdrFields) (d : BitVec 5) : Statement (.invalidSignaling16To31 f d) :=
  fun h => of_codeByte ((by decide : ∀ d : BitVec 5, inRange 16 31 d = true →
    mnemonicOf (0b111#3 ++ d) = some "INVALID.SIGNALING.16_31") d h)

end Sys2Proof.Laws.RowOfEncoding
end

