-- ==== Sys2Proof/Tests/Slice0.lean ====
section
/-! SUPPORT. The model's own tests: words written out from the spec's encodings, the vectors of `95_test_vectors.md`,
an ill-formed term for each check of WellFormed, and for each statement a state and operands that meet its
hypotheses. -/

namespace Sys2Proof.Tests

open Sys2Proof.Machine

/-- The free fields of the bytes `01 01 1010`, code byte, `0x12 0x34`: version 1, raw type 1, token length 10, message
id 0x1234 (layout of R41). -/
def fields : HdrFields := { version := 1, typeRaw := 1, tokenLength := 10, messageId := 0x1234 }

/-- Those bytes around a code byte. -/
def around (c : Byte) : HeaderBytes := { b0 := 0b01011010, b1 := c, b2 := 0x12, b3 := 0x34 }

/-- The result of the one step that evaluates these bytes. -/
def resultOf (b : HeaderBytes) : Option Result :=
  match step (State.reset.present b) with
  | .next t => t.result
  | .fault _ => none
  | .refused _ => none

/-- The code outcome of that step. -/
def codeOf (c : Byte) : Option (Decoded RqCode) := (resultOf (around c)).map (fun r => r.map Header.code)

/-- Every row of `41_code_taxonomy.md`'s Method section, at its first and its last code byte. -/
theorem test_decode_method_rows : ∀ p ∈ ([
    (0b00000000, .methodEmpty fields),
    (0b00000001, .methodGet fields),
    (0b00000010, .methodPost fields),
    (0b00000011, .methodOther3 fields),
    (0b00000100, .methodOther4To7 fields 4),
    (0b00000111, .methodOther4To7 fields 7),
    (0b00001000, .invalidMethod8To15 fields 8),
    (0b00001111, .invalidMethod8To15 fields 15),
    (0b00010000, .invalidMethod16To31 fields 16),
    (0b00011111, .invalidMethod16To31 fields 31)] : List (Byte × Instr)),
    decodeInstr (around p.1) = .ok p.2 ∧ WellFormed p.2 ∧ encode p.2 = around p.1 := by decide

/-- A detail just below or just above a row's range is refused, for each check. -/
theorem test_wellFormed_refuses_method : ∀ i ∈ ([
    .methodOther4To7 fields 3,
    .methodOther4To7 fields 8,
    .invalidMethod8To15 fields 7,
    .invalidMethod8To15 fields 16,
    .invalidMethod16To31 fields 15] : List Instr), ¬ WellFormed i := by decide

/-- One step on those code bytes, with the outcomes of `95_test_vectors.md` section 3. -/
theorem test_step_method_rows : ∀ p ∈ ([
    (0x00, .ok (.method .empty)),
    (0x01, .ok (.method .get)),
    (0x02, .ok (.method .post)),
    (0x03, .ok (.method (.other 3))),
    (0x04, .ok (.method (.other 4))),
    (0x07, .ok (.method (.other 7))),
    (0x08, .err (.invalidCode 0 8)),
    (0x0F, .err (.invalidCode 0 15)),
    (0x10, .err (.invalidCode 0 16)),
    (0x1F, .err (.invalidCode 0 31))] : List (Byte × Decoded RqCode)),
    codeOf p.1 = some p.2 := by decide

/-- Every row of `41_code_taxonomy.md`'s Success section, at its first and its last code byte. -/
theorem test_decode_success_rows : ∀ p ∈ ([
    (0b01000000, .successCreated fields),
    (0b01000001, .successDeleted fields),
    (0b01000010, .successOther2To3 fields 2),
    (0b01000011, .successOther2To3 fields 3),
    (0b01000100, .successOther4To5 fields 4),
    (0b01000101, .successOther4To5 fields 5),
    (0b01000110, .invalidSuccess6To7 fields 6),
    (0b01000111, .invalidSuccess6To7 fields 7),
    (0b01001000, .invalidSuccess8To15 fields 8),
    (0b01001111, .invalidSuccess8To15 fields 15),
    (0b01010000, .invalidSuccess16To23 fields 16),
    (0b01010111, .invalidSuccess16To23 fields 23),
    (0b01011000, .invalidSuccess24To27 fields 24),
    (0b01011011, .invalidSuccess24To27 fields 27),
    (0b01011100, .invalidSuccess28To29 fields 28),
    (0b01011101, .invalidSuccess28To29 fields 29),
    (0b01011110, .invalidSuccess30 fields),
    (0b01011111, .successOther31 fields)] : List (Byte × Instr)),
    decodeInstr (around p.1) = .ok p.2 ∧ WellFormed p.2 ∧ encode p.2 = around p.1 := by decide

/-- A detail just below or just above a row's range is refused, for each check. -/
theorem test_wellFormed_refuses_success : ∀ i ∈ ([
    .successOther2To3 fields 1,
    .successOther2To3 fields 4,
    .successOther4To5 fields 3,
    .successOther4To5 fields 6,
    .invalidSuccess6To7 fields 5,
    .invalidSuccess6To7 fields 8,
    .invalidSuccess8To15 fields 7,
    .invalidSuccess8To15 fields 16,
    .invalidSuccess16To23 fields 15,
    .invalidSuccess16To23 fields 24,
    .invalidSuccess24To27 fields 23,
    .invalidSuccess24To27 fields 28,
    .invalidSuccess28To29 fields 27,
    .invalidSuccess28To29 fields 30] : List Instr), ¬ WellFormed i := by decide

/-- One step on those code bytes, with the outcomes of `95_test_vectors.md` section 3. -/
theorem test_step_success_rows : ∀ p ∈ ([
    (0x40, .ok (.success .created)),
    (0x41, .ok (.success .deleted)),
    (0x42, .ok (.success (.other 2))),
    (0x43, .ok (.success (.other 3))),
    (0x44, .ok (.success (.other 4))),
    (0x45, .ok (.success (.other 5))),
    (0x46, .err (.invalidCode 2 6)),
    (0x47, .err (.invalidCode 2 7)),
    (0x48, .err (.invalidCode 2 8)),
    (0x4F, .err (.invalidCode 2 15)),
    (0x50, .err (.invalidCode 2 16)),
    (0x57, .err (.invalidCode 2 23)),
    (0x58, .err (.invalidCode 2 24)),
    (0x5B, .err (.invalidCode 2 27)),
    (0x5C, .err (.invalidCode 2 28)),
    (0x5D, .err (.invalidCode 2 29)),
    (0x5E, .err (.invalidCode 2 30)),
    (0x5F, .ok (.success (.other 31)))] : List (Byte × Decoded RqCode)),
    codeOf p.1 = some p.2 := by decide

/-- Every row of `41_code_taxonomy.md`'s ClientError section, at its first and its last code byte. -/
theorem test_decode_client_error_rows : ∀ p ∈ ([
    (0b10000000, .clientErrorBadRequest fields),
    (0b10000001, .clientErrorUnauthorized fields),
    (0b10000010, .clientErrorOther2To3 fields 2),
    (0b10000011, .clientErrorOther2To3 fields 3),
    (0b10000100, .clientErrorOther4To7 fields 4),
    (0b10000111, .clientErrorOther4To7 fields 7),
    (0b10001000, .clientErrorOther8To9 fields 8),
    (0b10001001, .clientErrorOther8To9 fields 9),
    (0b10001010, .invalidClientError10To11 fields 10),
    (0b10001011, .invalidClientError10To11 fields 11),
    (0b10001100, .clientErrorOther12To13 fields 12),
    (0b10001101, .clientErrorOther12To13 fields 13),
    (0b10001110, .invalidClientError14 fields),
    (0b10001111, .clientErrorOther15 fields),
    (0b10010000, .invalidClientError16To31 fields 16),
    (0b10011111, .invalidClientError16To31 fields 31)] : List (Byte × Instr)),
    decodeInstr (around p.1) = .ok p.2 ∧ WellFormed p.2 ∧ encode p.2 = around p.1 := by decide

/-- A detail just below or just above a row's range is refused, for each check. -/
theorem test_wellFormed_refuses_client_error : ∀ i ∈ ([
    .clientErrorOther2To3 fields 1,
    .clientErrorOther2To3 fields 4,
    .clientErrorOther4To7 fields 3,
    .clientErrorOther4To7 fields 8,
    .clientErrorOther8To9 fields 7,
    .clientErrorOther8To9 fields 10,
    .invalidClientError10To11 fields 9,
    .invalidClientError10To11 fields 12,
    .clientErrorOther12To13 fields 11,
    .clientErrorOther12To13 fields 14,
    .invalidClientError16To31 fields 15] : List Instr), ¬ WellFormed i := by decide

/-- One step on those code bytes, with the outcomes of `95_test_vectors.md` section 3. -/
theorem test_step_client_error_rows : ∀ p ∈ ([
    (0x80, .ok (.clientError .badRequest)),
    (0x81, .ok (.clientError .unauthorized)),
    (0x82, .ok (.clientError (.other 2))),
    (0x83, .ok (.clientError (.other 3))),
    (0x84, .ok (.clientError (.other 4))),
    (0x87, .ok (.clientError (.other 7))),
    (0x88, .ok (.clientError (.other 8))),
    (0x89, .ok (.clientError (.other 9))),
    (0x8A, .err (.invalidCode 4 10)),
    (0x8B, .err (.invalidCode 4 11)),
    (0x8C, .ok (.clientError (.other 12))),
    (0x8D, .ok (.clientError (.other 13))),
    (0x8E, .err (.invalidCode 4 14)),
    (0x8F, .ok (.clientError (.other 15))),
    (0x90, .err (.invalidCode 4 16)),
    (0x9F, .err (.invalidCode 4 31))] : List (Byte × Decoded RqCode)),
    codeOf p.1 = some p.2 := by decide

/-- Every row of `41_code_taxonomy.md`'s ServerError section, at its first and its last code byte. -/
theorem test_decode_server_error_rows : ∀ p ∈ ([
    (0b10100000, .serverErrorInternal fields),
    (0b10100001, .serverErrorNotImplemented fields),
    (0b10100010, .serverErrorOther2To3 fields 2),
    (0b10100011, .serverErrorOther2To3 fields 3),
    (0b10100100, .serverErrorOther4To5 fields 4),
    (0b10100101, .serverErrorOther4To5 fields 5),
    (0b10100110, .invalidServerError6To7 fields 6),
    (0b10100111, .invalidServerError6To7 fields 7),
    (0b10101000, .invalidServerError8To15 fields 8),
    (0b10101111, .invalidServerError8To15 fields 15),
    (0b10110000, .invalidServerError16To31 fields 16),
    (0b10111111, .invalidServerError16To31 fields 31)] : List (Byte × Instr)),
    decodeInstr (around p.1) = .ok p.2 ∧ WellFormed p.2 ∧ encode p.2 = around p.1 := by decide

/-- A detail just below or just above a row's range is refused, for each check. -/
theorem test_wellFormed_refuses_server_error : ∀ i ∈ ([
    .serverErrorOther2To3 fields 1,
    .serverErrorOther2To3 fields 4,
    .serverErrorOther4To5 fields 3,
    .serverErrorOther4To5 fields 6,
    .invalidServerError6To7 fields 5,
    .invalidServerError6To7 fields 8,
    .invalidServerError8To15 fields 7,
    .invalidServerError8To15 fields 16,
    .invalidServerError16To31 fields 15] : List Instr), ¬ WellFormed i := by decide

/-- One step on those code bytes, with the outcomes of `95_test_vectors.md` section 3. -/
theorem test_step_server_error_rows : ∀ p ∈ ([
    (0xA0, .ok (.serverError .internal)),
    (0xA1, .ok (.serverError .notImplemented)),
    (0xA2, .ok (.serverError (.other 2))),
    (0xA3, .ok (.serverError (.other 3))),
    (0xA4, .ok (.serverError (.other 4))),
    (0xA5, .ok (.serverError (.other 5))),
    (0xA6, .err (.invalidCode 5 6)),
    (0xA7, .err (.invalidCode 5 7)),
    (0xA8, .err (.invalidCode 5 8)),
    (0xAF, .err (.invalidCode 5 15)),
    (0xB0, .err (.invalidCode 5 16)),
    (0xBF, .err (.invalidCode 5 31))] : List (Byte × Decoded RqCode)),
    codeOf p.1 = some p.2 := by decide

/-- Every row of `41_code_taxonomy.md`'s Signaling section, at its first and its last code byte. -/
theorem test_decode_signaling_rows : ∀ p ∈ ([
    (0b11100000, .signalingUnassigned fields),
    (0b11100001, .signalingCsm fields),
    (0b11100010, .signalingOther2To3 fields 2),
    (0b11100011, .signalingOther2To3 fields 3),
    (0b11100100, .signalingOther4To5 fields 4),
    (0b11100101, .signalingOther4To5 fields 5),
    (0b11100110, .invalidSignaling6To7 fields 6),
    (0b11100111, .invalidSignaling6To7 fields 7),
    (0b11101000, .invalidSignaling8To15 fields 8),
    (0b11101111, .invalidSignaling8To15 fields 15),
    (0b11110000, .invalidSignaling16To31 fields 16),
    (0b11111111, .invalidSignaling16To31 fields 31)] : List (Byte × Instr)),
    decodeInstr (around p.1) = .ok p.2 ∧ WellFormed p.2 ∧ encode p.2 = around p.1 := by decide

/-- A detail just below or just above a row's range is refused, for each check. -/
theorem test_wellFormed_refuses_signaling : ∀ i ∈ ([
    .signalingOther2To3 fields 1,
    .signalingOther2To3 fields 4,
    .signalingOther4To5 fields 3,
    .signalingOther4To5 fields 6,
    .invalidSignaling6To7 fields 5,
    .invalidSignaling6To7 fields 8,
    .invalidSignaling8To15 fields 7,
    .invalidSignaling8To15 fields 16,
    .invalidSignaling16To31 fields 15] : List Instr), ¬ WellFormed i := by decide

/-- One step on those code bytes, with the outcomes of `95_test_vectors.md` section 3. -/
theorem test_step_signaling_rows : ∀ p ∈ ([
    (0xE0, .ok (.signaling .unassigned)),
    (0xE1, .ok (.signaling .csm)),
    (0xE2, .ok (.signaling (.other 2))),
    (0xE3, .ok (.signaling (.other 3))),
    (0xE4, .ok (.signaling (.other 4))),
    (0xE5, .ok (.signaling (.other 5))),
    (0xE6, .err (.invalidCode 7 6)),
    (0xE7, .err (.invalidCode 7 7)),
    (0xE8, .err (.invalidCode 7 8)),
    (0xEF, .err (.invalidCode 7 15)),
    (0xF0, .err (.invalidCode 7 16)),
    (0xFF, .err (.invalidCode 7 31))] : List (Byte × Decoded RqCode)),
    codeOf p.1 = some p.2 := by decide

/-- Every row of `41_code_taxonomy.md`'s InvalidClass section, at its first and its last code byte. -/
theorem test_decode_invalid_class_rows : ∀ p ∈ ([
    (0b00100000, .invalidClass1 fields 0),
    (0b00111111, .invalidClass1 fields 31),
    (0b01100000, .invalidClass3 fields 0),
    (0b01111111, .invalidClass3 fields 31),
    (0b11000000, .invalidClass6 fields 0),
    (0b11011111, .invalidClass6 fields 31)] : List (Byte × Instr)),
    decodeInstr (around p.1) = .ok p.2 ∧ WellFormed p.2 ∧ encode p.2 = around p.1 := by decide

/-- One step on those code bytes, with the outcomes of `95_test_vectors.md` section 3. -/
theorem test_step_invalid_class_rows : ∀ p ∈ ([
    (0x20, .err (.invalidCode 1 0)),
    (0x3F, .err (.invalidCode 1 31)),
    (0x60, .err (.invalidCode 3 0)),
    (0x7F, .err (.invalidCode 3 31)),
    (0xC0, .err (.invalidCode 6 0)),
    (0xDF, .err (.invalidCode 6 31))] : List (Byte × Decoded RqCode)),
    codeOf p.1 = some p.2 := by decide

/-- The accepted whole words of `95_test_vectors.md` section 2.5 (D1, D2, D3, D5, D6, D7, D8, D9, D10, D11, D12, D13, D14, D27, D28, D29), one step each. -/
theorem test_words_accepted : ∀ p ∈ ([
    (⟨0x40, 0x01, 0x00, 0x01⟩, .ok ⟨1, .confirmable, 0, .method .get, 1⟩),
    (⟨0x60, 0x5F, 0x00, 0x01⟩, .ok ⟨1, .acknowledgment, 0, .success (.other 31), 1⟩),
    (⟨0x00, 0x00, 0x00, 0x00⟩, .ok ⟨0, .confirmable, 0, .method .empty, 0⟩),
    (⟨0xFF, 0xE5, 0xFF, 0xFF⟩, .ok ⟨3, .reset, 15, .signaling (.other 5), 65535⟩),
    (⟨0x7F, 0xE1, 0x12, 0x34⟩, .ok ⟨1, .reset, 15, .signaling .csm, 4660⟩),
    (⟨0x50, 0x02, 0x01, 0x00⟩, .ok ⟨1, .nonConfirmable, 0, .method .post, 256⟩),
    (⟨0x48, 0x45, 0xAB, 0xCD⟩, .ok ⟨1, .confirmable, 8, .success (.other 5), 43981⟩),
    (⟨0x80, 0x80, 0x00, 0x00⟩, .ok ⟨2, .confirmable, 0, .clientError .badRequest, 0⟩),
    (⟨0xC0, 0x8F, 0x80, 0x00⟩, .ok ⟨3, .confirmable, 0, .clientError (.other 15), 32768⟩),
    (⟨0x1F, 0xA1, 0x00, 0xFF⟩, .ok ⟨0, .nonConfirmable, 15, .serverError .notImplemented, 255⟩),
    (⟨0x2F, 0xA5, 0xFF, 0x00⟩, .ok ⟨0, .acknowledgment, 15, .serverError (.other 5), 65280⟩),
    (⟨0x70, 0xE0, 0xBE, 0xEF⟩, .ok ⟨1, .reset, 0, .signaling .unassigned, 48879⟩),
    (⟨0x45, 0x07, 0x00, 0x2A⟩, .ok ⟨1, .confirmable, 5, .method (.other 7), 42⟩),
    (⟨0x49, 0x44, 0x30, 0x39⟩, .ok ⟨1, .confirmable, 9, .success (.other 4), 12345⟩),
    (⟨0x58, 0x8C, 0xFF, 0xFE⟩, .ok ⟨1, .nonConfirmable, 8, .clientError (.other 12), 65534⟩),
    (⟨0x62, 0x84, 0x00, 0x10⟩, .ok ⟨1, .acknowledgment, 2, .clientError (.other 4), 16⟩)] : List (HeaderBytes × Result)),
    resultOf p.1 = some p.2 := by decide

/-- The rejected whole words of `95_test_vectors.md` section 2.5 (D4, D15, D16, D17, D18, D19, D20, D21, D22, D23, D24, D25, D26, D30), one step each. -/
theorem test_words_rejected : ∀ p ∈ ([
    (⟨0xFF, 0xFF, 0xFF, 0xFF⟩, .err (.invalidCode 7 31)),
    (⟨0x40, 0x08, 0x00, 0x01⟩, .err (.invalidCode 0 8)),
    (⟨0x40, 0x20, 0x00, 0x01⟩, .err (.invalidCode 1 0)),
    (⟨0x40, 0x46, 0x00, 0x01⟩, .err (.invalidCode 2 6)),
    (⟨0x40, 0x5E, 0x00, 0x01⟩, .err (.invalidCode 2 30)),
    (⟨0x40, 0x8A, 0x00, 0x01⟩, .err (.invalidCode 4 10)),
    (⟨0x40, 0x8E, 0x00, 0x01⟩, .err (.invalidCode 4 14)),
    (⟨0x40, 0x90, 0x00, 0x01⟩, .err (.invalidCode 4 16)),
    (⟨0x40, 0xA6, 0x00, 0x01⟩, .err (.invalidCode 5 6)),
    (⟨0x40, 0xC0, 0x00, 0x01⟩, .err (.invalidCode 6 0)),
    (⟨0x40, 0xE6, 0x00, 0x01⟩, .err (.invalidCode 7 6)),
    (⟨0x40, 0x7F, 0x00, 0x01⟩, .err (.invalidCode 3 31)),
    (⟨0x60, 0x9F, 0x00, 0x01⟩, .err (.invalidCode 4 31)),
    (⟨0x40, 0x1F, 0x00, 0x00⟩, .err (.invalidCode 0 31))] : List (HeaderBytes × Result)),
    resultOf p.1 = some p.2 := by decide

/-- `95_test_vectors.md` section 2.2. -/
theorem test_msgTypeOfRaw : msgTypeOfRaw 2 = .ok .acknowledgment ∧ msgTypeOfRaw 4 = .err (.invalidMessageType 4) ∧
    msgTypeOfRaw 255 = .err (.invalidMessageType 255) := by decide

/-- `95_test_vectors.md` section 2.4, details above the wire's range. -/
theorem test_decodeCode_above_wire : decodeCode 2 32 = .err (.invalidCode 2 32) ∧
    decodeCode 4 44 = .err (.invalidCode 4 44) ∧ decodeCode 1 255 = .err (.invalidCode 1 255) := by decide

/-- `95_test_vectors.md` section 2.6, D2 and D20. -/
theorem test_ports : (State.reset.present ⟨0x60, 0x5F, 0x00, 0x01⟩).ports =
      ⟨1, 0, some ⟨1, 2, 0, 2, 31, 0, 1⟩, none, none, none⟩ ∧
    (State.reset.present ⟨0x40, 0x8E, 0x00, 0x01⟩).ports = ⟨0, 2, none, none, some 4, some 14⟩ := by decide

/-- `95_test_vectors.md` section 2.7, E10 and D28. -/
theorem test_encode : codeByte (.success (.other 31)) (by decide) = 0x5F ∧
    encodeHeader ⟨1, .nonConfirmable, 8, .clientError (.other 12), 65534⟩ (by decide) = ⟨0x58, 0x8C, 0xFF, 0xFE⟩ := by
  decide

/-- `95_test_vectors.md` section 2.8: K2 and K4 valid and not canonical, K6, K7 and X1 invalid. -/
theorem test_validity : (CodeValid (.method (.other 1)) ∧ ¬ CodeCanonical (.method (.other 1))) ∧
    (CodeValid (.success (.other 0)) ∧ ¬ CodeCanonical (.success (.other 0))) ∧
    ¬ CodeValid (.clientError (.other 14)) ∧ ¬ CodeValid (.serverError (.other 6)) ∧
    ¬ HeaderValid (construct 1 .reset 15 (.method (.other 200)) 65535) := by decide

/-- `95_test_vectors.md` section 2.9, D5. -/
theorem test_render : renderHeader ⟨3, .reset, 15, .signaling (.other 5), 65535⟩ =
    "Version: 3\nType: Reset\nToken length: 15\nCode: Signaling Other(5)\nMessage ID: 65535\n" := by decide

/-- `20_memory.md` R33: other lengths are no input of the block. -/
theorem test_decodeBytes : decodeBytes [0x40, 0x01, 0x00, 0x01] = .ok (.methodGet ⟨1, 0, 0, 1⟩) ∧
    decodeBytes [0x40, 0x01, 0x00] = .error (.notFourBytes 3) ∧
    decodeBytes [0x40, 0x01, 0x00, 0x01, 0xFF] = .error (.notFourBytes 5) := by decide

/-- A presented buffer is listed in canonical form; an offset past the buffer does not exist (`20_memory.md` R30). -/
theorem test_buffer : (State.reset.present ⟨0x40, 0x00, 0x00, 0x01⟩).mem = [(0, 0x40), (3, 0x01)] ∧
    memRead 3 (State.reset.present ⟨0x40, 0x00, 0x00, 0x01⟩) = .ok 0x01 ∧
    memRead 4 State.reset = .error (.noSuchOffset 4) := by decide

/-- The host's reading of a table word, and the step that evaluates it first after reset. -/
theorem test_tableWord : decodeTableWord 32 0x00DF0000 = some (.invalidClass6 ⟨0, 0, 0, 0⟩ 31) ∧
    (State.reset.withFetchWord 32 0x00DF0000).inputBytes = ⟨0x00, 0xDF, 0x00, 0x00⟩ ∧
    resultOf ⟨0x00, 0xDF, 0x00, 0x00⟩ = some (.err (.invalidCode 6 31)) := by decide

/-! Witnesses: for each statement with hypotheses, a concrete case that meets them all.  The statements about the rows
have theirs in test_decode_<family>_rows and test_step_<family>_rows, at both ends of every range. -/

/-- A state whose code is accepted, for a given byte 0. -/
def accepted (b0 : Byte) : State := State.reset.present ⟨b0, 0x5F, 0x00, 0x01⟩

/-- A state whose code is rejected. -/
def rejected : State := State.reset.present ⟨0x40, 0x8E, 0x00, 0x01⟩

theorem test_witness_StepRunsDecodedInstruction :
    decodeInstr (accepted 0x60).inputBytes = .ok (.successOther31 ⟨1, 2, 0, 1⟩) := by decide

theorem test_witness_DecodeOfEncodeIsTheInstruction :
    WellFormed (.methodOther4To7 fields 4) ∧ WellFormed (.methodOther4To7 fields 7) ∧
    WellFormed (.invalidClass6 fields 0) ∧ WellFormed (.methodEmpty fields) := by decide

theorem test_witness_RowsPartitionHeaderWords :
    opTable.head?.map (fun r => r.accepts 0x00000000) = some true ∧
    opTable.getLast?.map (fun r => r.accepts 0xFFFFFFFF) = some true := by decide

theorem test_witness_ExtractionsAreShiftsAndMasks :
    (31 : Byte) ∈ classTable.success.extra ∧ (15 : Byte) ∈ classTable.clientError.extra ∧
    (∃ e, decodeCode 1 0 = .err e) ∧ (∃ e, decodeCode 3 255 = .err e) ∧ (∃ e, decodeCode 6 31 = .err e) ∧
    (⟨0x00, 0x5F, 0x00, 0x00⟩ : HeaderBytes) ≠ ⟨0xFF, 0x5F, 0xFF, 0xFF⟩ :=
  ⟨by decide, by decide, ⟨_, rfl⟩, ⟨_, rfl⟩, ⟨_, rfl⟩, by decide⟩

theorem test_witness_FreeFieldsHaveNoInvalidValue :
    decodeCode (extClass (accepted 0x60).inputBytes) (extDetail (accepted 0x60).inputBytes) =
      .ok (.success (.other 31)) := by decide

theorem test_witness_TypeFieldSelectsTheMessageType :
    (∀ b0 ∈ ([0x40, 0x50, 0x60, 0x70] : List Byte),
      decodeCode (extClass (accepted b0).inputBytes) (extDetail (accepted b0).inputBytes) =
        .ok (.success (.other 31))) ∧
    (accepted 0x40).hdrIn.extractLsb' 28 2 = 0b00#2 ∧ (accepted 0x50).hdrIn.extractLsb' 28 2 = 0b01#2 ∧
    (accepted 0x60).hdrIn.extractLsb' 28 2 = 0b10#2 ∧ (accepted 0x70).hdrIn.extractLsb' 28 2 = 0b11#2 := by decide

theorem test_witness_TypeErrorHidesTheCode : msgTypeOfRaw 4 = .err (.invalidMessageType 4) ∧
    msgTypeOfRaw 255 = .err (.invalidMessageType 255) := by decide

theorem test_witness_TypeValidatorFailsOnlyOffTheWire : (4 : Byte) ≤ 4 ∧ (4 : Byte) ≤ 255 := by decide

theorem test_witness_rows_detail_ranges :
    ((3 : Byte) ≤ 3 ∧ (7 : Byte) ≤ 7 ∧ (8 : Byte) ≤ 8 ∧ (8 : Byte) ≤ 255) ∧
    ((2 : Byte) ≤ 2 ∧ (5 : Byte) ≤ 5 ∧ (6 : Byte) ≤ 6 ∧ (30 : Byte) ≤ 30 ∧ (32 : Byte) ≤ 32) ∧
    ((9 : Byte) ≤ 9 ∧ (16 : Byte) ≤ 16 ∧ (16 : Byte) ≤ 255) := by decide

theorem test_witness_InvalidClassRowsRaiseInvalidCode :
    extClass (State.reset.present ⟨0x40, 0x20, 0x00, 0x01⟩).inputBytes = 1 ∧
    extClass (State.reset.present ⟨0x40, 0x7F, 0x00, 0x01⟩).inputBytes = 3 ∧
    extClass (State.reset.present ⟨0x40, 0xC0, 0x00, 0x01⟩).inputBytes = 6 := by decide

theorem test_witness_ClassifyDetailHasThreeCases :
    isNamed classTable.method 2 = true ∧ isNamed classTable.method 3 = false ∧ (7 : Byte) ≤ classTable.method.ceiling ∧
    isNamed classTable.success 31 = false ∧ (31 : Byte) ∈ classTable.success.extra ∧
    isNamed classTable.clientError 14 = false ∧ ¬ (14 : Byte) ≤ classTable.clientError.ceiling ∧
    (14 : Byte) ∉ classTable.clientError.extra ∧ decodeCode 2 31 = .ok (.success (.other 31)) := by decide

theorem test_witness_StepKeepsTheInvariant : Inv State.reset ∧ ∃ t, step State.reset = .next t :=
  ⟨⟨by decide, fun r h => by cases h⟩, _, rfl⟩

theorem test_witness_EvaluationWritesNoMemory :
    (∃ t, exec (.methodOther4To7 fields 7) (accepted 0x60) = .next t) ∧
    (∃ t, exec (.invalidClass1 fields 0) rejected = .next t) ∧ ∃ t, step rejected = .next t :=
  ⟨⟨_, rfl⟩, ⟨_, rfl⟩, _, rfl⟩

/-- Two different states with the same input bytes: another earlier result, and an entry past the buffer. -/
theorem test_witness_ResultDependsOnTheInputBytesOnly :
    (∀ offset < 4, memRead offset ⟨[(0, 0x40)], none⟩ =
      memRead offset ⟨[(0, 0x40), (7, 0x01)], some (.err (.invalidCode 1 0))⟩) ∧
    (⟨[(0, 0x40)], none⟩ : State) ≠ ⟨[(0, 0x40), (7, 0x01)], some (.err (.invalidCode 1 0))⟩ := by decide

theorem test_witness_SessionResultsAreDecodeOfEachHeader :
    ([around 0x01, around 0x20] : List HeaderBytes).Perm [around 0x20, around 0x01] := List.Perm.swap ..

theorem test_witness_ErrorCarriesTheWholeCodeByte :
    ∃ t, step rejected = .next t ∧ t.result = some (.err (.invalidCode 4 14)) := ⟨_, rfl, rfl⟩

theorem test_witness_StepReturnsOkOnExactlyFortyCodeBytes :
    (accepted 0x60).inputBytes.b1 = 0x5F ∧ rejected.inputBytes.b1 = 0x8E := by decide

theorem test_witness_PortsOfAnAcceptedHeader :
    decodeCode (extClass (accepted 0xFF).inputBytes) (extDetail (accepted 0xFF).inputBytes) =
      .ok (.success (.other 31)) := by decide

theorem test_witness_PortsOfARejectedHeader :
    decodeCode (extClass rejected.inputBytes) (extDetail rejected.inputBytes) = .err (.invalidCode 4 14) := by decide

theorem test_witness_CodePortsCarryEveryCode : decodeHeader ⟨0x40, 0x5F, 0x00, 0x01⟩ =
      .ok ⟨1, .confirmable, 0, .success (.other 31), 1⟩ ∧
    decodeHeader ⟨0xFF, 0x5F, 0x12, 0x34⟩ = .ok ⟨3, .reset, 15, .success (.other 31), 4660⟩ := by decide

theorem test_witness_EncodeNumbersOfDetailsAndTypes : msgTypeOfRaw (zextType 3) = .ok .reset := by decide

theorem test_witness_CodeByteIsTagThenNumber : ∃ valid : CodeValid (.success (.other 31)),
    (around 0x5F).b1 = codeByte (.success (.other 31)) valid := ⟨by decide, by decide⟩

theorem test_witness_EncodedHeaderBytes : HeaderValid ⟨3, .reset, 15, .signaling (.other 5), 65535⟩ := by decide

theorem test_witness_EncodingADecodedHeaderGivesItsBytes : decodeCode 4 15 = .ok (.clientError (.other 15)) ∧
    decodeHeader ⟨0xFF, 0xE5, 0xFF, 0xFF⟩ = .ok ⟨3, .reset, 15, .signaling (.other 5), 65535⟩ := by decide

theorem test_witness_DecodingAnEncodedCanonicalHeader :
    HeaderValid ⟨3, .reset, 15, .signaling (.other 5), 65535⟩ ∧
    HeaderCanonical ⟨3, .reset, 15, .signaling (.other 5), 65535⟩ ∧
    HeaderCanonical ⟨0, .confirmable, 0, .method .empty, 0⟩ := by decide

theorem test_witness_NonCanonicalCodeComesBackNamed :
    CodeValid (.method (.other 2)) ∧ ¬ CodeCanonical (.method (.other 2)) := by decide

theorem test_witness_DecodedHeadersAreValidAndCanonical :
    ∃ t, step (accepted 0x60) = .next t ∧
      t.result = some (.ok ⟨1, .acknowledgment, 0, .success (.other 31), 1⟩) := ⟨_, rfl, rfl⟩

theorem test_witness_InvariantAtResetAndAfterPresentation : Inv (accepted 0x60) :=
  ⟨by decide, fun r h => by cases h⟩

/-- The decimal clauses meet at 9 and 10; 31 is the document's own spelling `Other(31)` (`43_render.md` R131). -/
theorem test_witness_RenderedTextOfAHeader : (10 : Nat) ≤ 10 ∧ ¬ (10 : Nat) ≤ 9 ∧ decimal 10 = "10" ∧
    renderCode (.success (.other 31)) = "Success Other(31)" := by decide

theorem test_witness_ReadsExistAtFourOffsetsOnly : (4 : Nat) ≤ 4 := by decide

end Sys2Proof.Tests
end

/-! PROOFS. The decoder's row and the class table of `41_code_taxonomy.md` give every header one outcome, so a step is the
function DECODE of the four bytes. -/

namespace Sys2Proof.Machine

/-- The code byte is the class bits followed by the detail bits, `30_encoding.md` R41. -/
theorem b1_eq_append (b : HeaderBytes) : b.b1 = extClass b ++ extDetail5 b :=
  (by decide : ∀ c : Byte, c = (c >>> 5).setWidth 3 ++ (c &&& 0x1F#8).setWidth 5) b.b1

/-- A row hands the free fields to its instruction as they are. -/
theorem instrFields_build : ∀ r ∈ opTable, ∀ f d, instrFields (r.build f d) = f := by
  refine List.forall_iff_forall_mem.mp ?_
  and_intros <;> exact fun _ _ => rfl

/-- The outcome of a row on a detail. -/
def rowOutcome (r : OpRow) (d : BitVec 5) : Decoded RqCode := instrOutcome (r.build ⟨0, 0, 0, 0⟩ d)

/-- The free fields of an instruction play no part in its outcome, `30_encoding.md` R49. -/
theorem instrOutcome_build : ∀ r ∈ opTable, ∀ f d, instrOutcome (r.build f d) = rowOutcome r d := by
  refine List.forall_iff_forall_mem.mp ?_
  and_intros <;> exact fun _ _ => rfl

/-- The outcome of the row of a code byte with the class `c` and the detail `d`. -/
def codeRowOutcome (c : BitVec 3) (d : BitVec 5) : Option (Decoded RqCode) :=
  (rowOf (codeWord (c ++ d))).map fun r => rowOutcome r d

/-- The two renderings of the taxonomy agree, the row table and the class table: a finite fact, evaluated on the 256 code
bytes. -/
theorem codeRowOutcome_eq (c : BitVec 3) (d : BitVec 5) :
    codeRowOutcome c d = some (decodeCode c (zextDetail d)) := by
  revert c d
  decide

theorem exists_row_outcome (b : HeaderBytes) : ∃ r ∈ opTable, rowOf (codeWord b.b1) = some r ∧
    rowOutcome r (extDetail5 b) = decodeCode (extClass b) (extDetail b) := by
  have hb := codeRowOutcome_eq (extClass b) (extDetail5 b)
  rw [codeRowOutcome, ← b1_eq_append, Option.map_eq_some_iff] at hb
  obtain ⟨r, hr, ho⟩ := hb
  exact ⟨r, List.mem_of_find?_eq_some hr, hr, ho⟩

/-- Every header decodes, to an instruction with the header's free fields and with the outcome that the class table
gives the header's class and detail. -/
theorem decodeInstr_total (b : HeaderBytes) : ∃ i, decodeInstr b = .ok i ∧ instrFields i = hdrFields b ∧
    instrOutcome i = decodeCode (extClass b) (extDetail b) := by
  obtain ⟨r, hmem, hrow, ho⟩ := exists_row_outcome b
  exact ⟨_, decodeInstr_of_row hrow, instrFields_build r hmem .., (instrOutcome_build r hmem ..).trans ho⟩

/-- The instruction that a step runs is that of the input bytes. -/
theorem step_of_decodeInstr {s : State} {i : Instr} (h : decodeInstr s.inputBytes = .ok i) : step s = exec i s := by
  simp [step, h]

/-- All that a step can do: it answers the next state, in which only the result is new, and the result is DECODE of the
input bytes. -/
theorem step_eq (s : State) : step s = .next { s with result := some (decodeHeader s.inputBytes) } := by
  obtain ⟨i, hi, hf, ho⟩ := decodeInstr_total s.inputBytes
  rw [step_of_decodeInstr hi, exec_eq, hf, ho]
  rfl

end Sys2Proof.Machine

/-! PROOFS. What the output ports say of a result and of a code, `10_state.md` R26 and R27. -/

namespace Sys2Proof.Machine

theorem errKindPort_ne_three (r : Result) : errKindPort r ≠ 3 := by
  match r with
  | .ok _ => simp [errKindPort]
  | .err (.invalidMessageType _) => simp [errKindPort]
  | .err (.invalidCode _ _) => simp [errKindPort]

theorem okPort_eq_one_iff_errKindPort (r : Result) : okPort r = 1 ↔ errKindPort r = 0 := by
  match r with
  | .ok _ => simp [okPort, errKindPort]
  | .err (.invalidMessageType _) => simp [okPort, errKindPort]
  | .err (.invalidCode _ _) => simp [okPort, errKindPort]

theorem okPort_eq_one_iff_headerPortsOf (r : Result) : okPort r = 1 ↔ (headerPortsOf r).isSome = true := by
  cases r with
  | ok _ => simp [okPort, headerPortsOf]
  | err _ => simp [okPort, headerPortsOf]

/-- The consumer's reading of the triple is the inverse of the code ports. -/
theorem codeOfPorts_of_code (q : RqCode) : codeOfPorts (codeTag q) (codeNamedPort q) (detailNumber q) = some q := by
  cases q with
  | method e => cases e <;> rfl
  | success e => cases e <;> rfl
  | clientError e => cases e <;> rfl
  | serverError e => cases e <;> rfl
  | signaling e => cases e <;> rfl

theorem Decoded.map_eq_ok_iff {α β : Type} {f : α → β} {x : Decoded α} {y : β} :
    x.map f = .ok y ↔ ∃ a, x = .ok a ∧ f a = y := by
  cases x <;> simp [Decoded.map]

/-- What a class decoder accepts: a named detail, or a valid number that has no name, as `Other` of that number. -/
theorem classifyDetail_ok_cases {ε : Type} {K : Config.ClassEntry ε} {other : Byte → ε} {d : Byte} {e : ε}
    (h : classifyDetail K other d = .ok e) :
    K.named.lookup d = some e ∨ K.named.lookup d = none ∧ isValid K d = true ∧ e = other d := by
  unfold classifyDetail at h
  split at h
  next e' hl =>
    cases h
    exact .inl hl
  next hl =>
    split at h
    next hv =>
      cases h
      exact .inr ⟨hl, hv, rfl⟩
    next => cases h

/-- A class whose codes bear its tag, and whose named details and `Other` bear their own numbers, decodes each detail it
accepts to a code of that tag and number. -/
theorem tag_number_of_classCode {ε : Type} {K : Config.ClassEntry ε} {other : Byte → ε} {code : ε → RqCode} {d : Byte}
    {q : RqCode} (htag : ∀ e, codeTag (code e) = K.tag) (hnamed : ∀ p ∈ K.named, detailNumber (code p.2) = p.1)
    (hother : ∀ v, detailNumber (code (other v)) = v) (h : (classifyDetail K other d).map code = .ok q) :
    codeTag q = K.tag ∧ detailNumber q = d := by
  obtain ⟨e, he, rfl⟩ := Decoded.map_eq_ok_iff.mp h
  refine ⟨htag e, ?_⟩
  rcases classifyDetail_ok_cases he with hl | ⟨-, -, rfl⟩
  · obtain ⟨l₁, l₂, hl, -⟩ := List.lookup_eq_some_iff.mp hl
    exact hnamed (d, e) (by simp [hl])
  · exact hother d

/-- A decoded code keeps the class and the detail it was decoded from, `41_code_taxonomy.md` R109. -/
theorem tag_number_of_decodeCode {c : BitVec 3} {d : Byte} {q : RqCode} (h : decodeCode c d = .ok q) :
    codeTag q = c ∧ detailNumber q = d := by
  unfold decodeCode at h
  split_ifs at h with hc hc hc hc hc
  all_goals
    rw [hc]
    exact tag_number_of_classCode (fun _ => rfl) (by decide) (fun _ => rfl) h

/-- The validation of the message type never decides the result of a header: it is the code's outcome that does. -/
theorem decodeHeader_eq (b : HeaderBytes) : ∃ type, extType b = typeNumber type ∧
    decodeHeader b = (decodeCode (extClass b) (extDetail b)).map fun q =>
      ⟨extVersion b, type, extTkl b, q, extMid b⟩ := by
  obtain ⟨type, ht⟩ := exists_typeNumber (extType b)
  refine ⟨type, ht, ?_⟩
  rw [decodeHeader, assemble, ht, msgTypeOfRaw_typeNumber]
  cases decodeCode (extClass b) (extDetail b) <;> rfl

theorem decodeCode_of_decodeHeader {b : HeaderBytes} {h : Header} (hb : decodeHeader b = .ok h) :
    decodeCode (extClass b) (extDetail b) = .ok h.code := by
  obtain ⟨type, -, heq⟩ := decodeHeader_eq b
  obtain ⟨q, hq, rfl⟩ := Decoded.map_eq_ok_iff.mp (heq.symm.trans hb)
  exact hq

/-- The code of a decoded header is the one that its own tag and number decode to. -/
theorem decodeCode_tag_number {b : HeaderBytes} {h : Header} (hb : decodeHeader b = .ok h) :
    decodeCode (codeTag h.code) (detailNumber h.code) = .ok h.code := by
  have hc := decodeCode_of_decodeHeader hb
  obtain ⟨htag, hnum⟩ := tag_number_of_decodeCode hc
  rwa [htag, hnum]

end Sys2Proof.Machine

/-! PROOFS. The statements on the block's state and ports, `10_state.md`. -/

namespace Sys2Proof.Machine

/-- Settles O1: the reads always succeed, so the decoded instruction is what runs. -/
theorem stepRunsDecodedInstruction : Obligations.StepRunsDecodedInstruction := by
  unfold Obligations.StepRunsDecodedInstruction
  exact fun _ _ h => step_of_decodeInstr h

/-- Settles O35: a step changes the result only, to DECODE of the input, which is what the ports show. -/
theorem portsFollowTheInput : Obligations.PortsFollowTheInput := by
  unfold Obligations.PortsFollowTheInput
  intro s
  exact ⟨_, decodeHeader s.inputBytes, step_eq s, rfl, rfl, rfl, errKindPort_ne_three _,
    okPort_eq_one_iff_errKindPort _, okPort_eq_one_iff_headerPortsOf _⟩

/-- Settles O36: the triple is read back code by code, and a decoded code is the decoding of its own tag and number. -/
theorem codePortsCarryEveryCode : Obligations.CodePortsCarryEveryCode := by
  unfold Obligations.CodePortsCarryEveryCode
  refine ⟨codeOfPorts_of_code, fun b b' h h' hb hb' htag hnum => ?_⟩
  have hcode : h.code = h'.code := by
    have hdec := decodeCode_tag_number hb
    rw [htag, hnum, decodeCode_tag_number hb', Decoded.ok.injEq] at hdec
    exact hdec.symm
  exact ⟨hcode, by rw [hcode]⟩

end Sys2Proof.Machine

/-! PROOFS. Where each field of a header stands in its bytes and in its word, `20_memory.md` R31 and R32. -/

namespace Sys2Proof.Machine

/-- Byte 0 is the version bits, the type bits and the token length bits, from bit 7 down. -/
theorem b0_eq_append (b : HeaderBytes) : b.b0 = extVersion b ++ extType b ++ extTkl b :=
  (by decide : ∀ c : Byte, c = ((c >>> 6) &&& 0x03#8).setWidth 2 ++ ((c >>> 4) &&& 0x03#8).setWidth 2 ++
    (c &&& 0x0F#8).setWidth 4) b.b0

/-- The message id is big-endian, byte 2 its high octet. -/
theorem extMid_eq_append (b : HeaderBytes) : extMid b = b.b2 ++ b.b3 := by
  have h : b.b2 ++ b.b3 = b.b2.setWidth (8 + 8) <<< 8 ||| b.b3.setWidth (8 + 8) := by
    rw [BitVec.append_def, BitVec.shiftLeftZeroExtend_eq, BitVec.setWidth'_eq]
  exact h.symm

theorem b0_toNat (b : HeaderBytes) :
    b.b0.toNat = 64 * (extVersion b).toNat + 16 * (extType b).toNat + (extTkl b).toNat := by
  calc b.b0.toNat = (extVersion b ++ extType b ++ extTkl b).toNat := congrArg _ (b0_eq_append b)
    _ = _ := by
      rw [toNat_append_eq, toNat_append_eq]
      omega

theorem b1_toNat (b : HeaderBytes) : b.b1.toNat = 32 * (extClass b).toNat + (extDetail5 b).toNat := by
  calc b.b1.toNat = (extClass b ++ extDetail5 b).toNat := congrArg _ (b1_eq_append b)
    _ = _ := by
      rw [toNat_append_eq]
      omega

theorem extMid_toNat (b : HeaderBytes) : (extMid b).toNat = 256 * b.b2.toNat + b.b3.toNat := by
  calc (extMid b).toNat = (b.b2 ++ b.b3).toNat := congrArg _ (extMid_eq_append b)
    _ = _ := by
      rw [toNat_append_eq]
      omega

/-- The header word is its high half, bytes 0 and 1, followed by the message id. -/
theorem toWord_eq_append_extMid (b : HeaderBytes) : b.toWord = (b.b0 ++ b.b1) ++ extMid b := by
  rw [extMid_eq_append]
  exact BitVec.append_assoc

theorem toWord_eq_append_fields (b : HeaderBytes) :
    b.toWord = extVersion b ++ extType b ++ extTkl b ++ extClass b ++ extDetail5 b ++ extMid b := by
  have hassoc : (extVersion b ++ extType b ++ extTkl b) ++ (extClass b ++ extDetail5 b) =
      extVersion b ++ extType b ++ extTkl b ++ extClass b ++ extDetail5 b := BitVec.append_assoc.symm
  rw [toWord_eq_append_extMid, ← hassoc, ← b0_eq_append, ← b1_eq_append]

theorem extMid_eq_extractLsb' (b : HeaderBytes) : extMid b = b.toWord.extractLsb' 0 16 := by
  rw [toWord_eq_append_extMid]
  exact BitVec.extractLsb'_append_eq_right.symm

end Sys2Proof.Machine

/-! PROOFS. Evaluations and sessions of evaluations: what each leaves in the state, `20_memory.md` R34 and R36. -/

namespace Sys2Proof.Machine

/-- Reads depend on the memory alone. -/
theorem memRead_congr {s t : State} (h : s.mem = t.mem) (offset : Nat) : memRead offset s = memRead offset t := by
  rw [memRead, memRead, h]

/-- Buffers that read alike at the four offsets hold the same header. -/
theorem inputBytes_eq_of_memRead_eq {s s' : State} (h : ∀ offset < 4, memRead offset s = memRead offset s') :
    s.inputBytes = s'.inputBytes := by
  have hbyte : ∀ offset < 4, s.mem.byteAt offset = s'.mem.byteAt offset := fun offset ho =>
    Except.ok.inj (by rw [← memRead_inside ho, ← memRead_inside ho, h offset ho])
  simp [State.inputBytes, hbyte]

/-- A second step finds the same input bytes and returns their result again. -/
theorem step_of_step_eq_next {s t : State} (h : step s = .next t) : step t = .next t := by
  rw [step_eq] at h
  cases h
  exact step_eq _

/-- The state after a header's evaluation holds that header and DECODE of it, and nothing of the state before. -/
theorem evaluate_eq (b : HeaderBytes) (s : State) :
    evaluate b s = .next ⟨Memory.ofBytes b, some (decodeHeader b)⟩ := by
  rw [evaluate, step_eq, inputBytes_present]
  rfl

@[simp] theorem sessionEnd_nil (s : State) : sessionEnd [] s = s := rfl

@[simp] theorem sessionEnd_cons (b : HeaderBytes) (rest : List HeaderBytes) (s : State) :
    sessionEnd (b :: rest) s = sessionEnd rest ⟨Memory.ofBytes b, some (decodeHeader b)⟩ := by
  rw [sessionEnd, evaluate_eq]

theorem sessionEnd_append (headers headers' : List HeaderBytes) (s : State) :
    sessionEnd (headers ++ headers') s = sessionEnd headers' (sessionEnd headers s) := by
  induction headers generalizing s with
  | nil => rfl
  | cons b rest ih => rw [List.cons_append, sessionEnd_cons, sessionEnd_cons, ih]

theorem sessionEnd_concat (headers : List HeaderBytes) (b : HeaderBytes) (s : State) :
    sessionEnd (headers ++ [b]) s = ⟨Memory.ofBytes b, some (decodeHeader b)⟩ := by
  rw [sessionEnd_append, sessionEnd_cons, sessionEnd_nil]

@[simp] theorem sessionResults_cons (b : HeaderBytes) (rest : List HeaderBytes) (s : State) :
    sessionResults (b :: rest) s =
      some (decodeHeader b) :: sessionResults rest ⟨Memory.ofBytes b, some (decodeHeader b)⟩ := by
  rw [sessionResults, evaluate_eq]

/-- Whatever the state, and so whatever was evaluated before, each result of a session is DECODE of its own header. -/
theorem sessionResults_eq (headers : List HeaderBytes) (s : State) :
    sessionResults headers s = headers.map fun b => some (decodeHeader b) := by
  induction headers generalizing s with
  | nil => rfl
  | cons b rest ih => rw [sessionResults_cons, List.map_cons, ih]

end Sys2Proof.Machine

/-! PROOFS. The statements on the input buffer, `20_memory.md`. -/

namespace Sys2Proof.Machine

/-- Settles O31: an evaluation leaves nothing of the state before it, so by induction on the session each result is that
of its header alone, and the last header is what the buffer then holds. -/
theorem sessionResultsAreDecodeOfEachHeader : Obligations.SessionResultsAreDecodeOfEachHeader := by
  unfold Obligations.SessionResultsAreDecodeOfEachHeader
  intro headers s
  refine ⟨sessionResults_eq headers s, fun b => ?_, fun headers' s' hperm => ?_⟩
  · rw [sessionEnd_concat]
    exact ⟨inputBytes_present s b, rfl⟩
  · rw [sessionResults_eq, sessionResults_eq]
    exact hperm.map _

/-- Settles O6: bytes 0 and 1 and the message id are concatenations of the fields, and the word is that of the three. -/
theorem headerWordIsItsFieldsInOrder : Obligations.HeaderWordIsItsFieldsInOrder := by
  unfold Obligations.HeaderWordIsItsFieldsInOrder
  exact fun b => ⟨b0_eq_append b, b0_toNat b, b1_eq_append b, b1_toNat b, extMid_eq_append b, extMid_toNat b,
    extMid_eq_extractLsb' b, toWord_eq_append_fields b⟩

/-- Settles O29: an instruction changes the result only, on which no read depends. -/
theorem evaluationWritesNoMemory : Obligations.EvaluationWritesNoMemory := by
  unfold Obligations.EvaluationWritesNoMemory
  refine ⟨fun i s t h => ?_, fun s t => step_of_step_eq_next⟩
  obtain ⟨hmem, -⟩ := exec_next_inv h
  exact ⟨hmem, memRead_congr hmem⟩

/-- Settles O30: alike reads are the same header, and the result is DECODE of the header. -/
theorem resultDependsOnTheInputBytesOnly : Obligations.ResultDependsOnTheInputBytesOnly := by
  unfold Obligations.ResultDependsOnTheInputBytesOnly
  intro s s' h
  refine ⟨_, _, step_eq s, step_eq s', ?_⟩
  rw [inputBytes_eq_of_memRead_eq h]

/-- Settles O46: the four offsets are read, any other faults by the model's choice, and a step always answers. -/
theorem readsExistAtFourOffsetsOnly : Obligations.ReadsExistAtFourOffsetsOnly := by
  unfold Obligations.ReadsExistAtFourOffsetsOnly
  intro s
  exact ⟨memRead_inside (by decide) s, memRead_inside (by decide) s, memRead_inside (by decide) s,
    memRead_inside (by decide) s, fun _ h => memRead_outside h s, _, step_eq s, rfl⟩

end Sys2Proof.Machine

/-! PROOFS. The encoder and the decoder are inverse: where an encoding holds each field, and which row an instruction
comes from, `30_encoding.md` R41 and R48. -/

namespace Sys2Proof.Machine

/-- The fields of byte 0 are read back from its three parts. -/
theorem ext_of_b0_eq_append {b : HeaderBytes} {v t : BitVec 2} {k : BitVec 4} (h : b.b0 = v ++ t ++ k) :
    extVersion b = v ∧ extType b = t ∧ extTkl b = k := by
  rw [extVersion, extType, extTkl, h]
  exact (by decide : ∀ (v t : BitVec 2) (k : BitVec 4),
    (((v ++ t ++ k : Byte) >>> 6) &&& 0x03#8).setWidth 2 = v ∧
    (((v ++ t ++ k : Byte) >>> 4) &&& 0x03#8).setWidth 2 = t ∧
    ((v ++ t ++ k : Byte) &&& 0x0F#8).setWidth 4 = k) v t k

/-- The detail is read back from the two parts of the code byte. -/
theorem extDetail5_of_b1_eq_append {b : HeaderBytes} {c : BitVec 3} {d : BitVec 5} (h : b.b1 = c ++ d) :
    extDetail5 b = d := by
  rw [extDetail5, h]
  exact (by decide : ∀ (c : BitVec 3) (d : BitVec 5), ((c ++ d : Byte) &&& 0x1F#8).setWidth 5 = d) c d

/-- A 16-bit value is its high octet followed by its low octet. -/
theorem octets_append (m : BitVec 16) : m.extractLsb' 8 8 ++ m.extractLsb' 0 8 = m :=
  BitVec.extractLsb'_append_extractLsb'_eq_extractLsb' (by decide) |>.trans BitVec.extractLsb'_eq_self

/-- The free fields of an encoding are those of the instruction. -/
theorem hdrFields_encode (i : Instr) : hdrFields (encode i) = instrFields i := by
  obtain ⟨hv, ht, hk⟩ := ext_of_b0_eq_append (b := encode i) rfl
  have hm : extMid (encode i) = (instrFields i).messageId := (extMid_eq_append _).trans (octets_append _)
  rw [hdrFields, hv, ht, hk, hm]

/-- An instruction with the free fields and the code byte of a header encodes to that header. -/
theorem encode_eq_of_fields {i : Instr} {b : HeaderBytes} (hf : instrFields i = hdrFields b)
    (hc : instrCodeByte i = b.b1) : encode i = b := by
  have hhigh : (extMid b).extractLsb' 8 8 = b.b2 := by
    rw [extMid_eq_append]
    exact BitVec.extractLsb'_append_eq_left
  have hlow : (extMid b).extractLsb' 0 8 = b.b3 := by
    rw [extMid_eq_append]
    exact BitVec.extractLsb'_append_eq_right
  simp only [encode, hf, hc, hdrFields, ← b0_eq_append, hhigh, hlow]

/-- The free fields play no part in the code byte of a row's instruction nor in its being well formed,
`30_encoding.md` R49. -/
theorem code_wellFormed_build : ∀ r ∈ opTable, ∀ f f' d,
    instrCodeByte (r.build f d) = instrCodeByte (r.build f' d) ∧
    wellFormed (r.build f d) = wellFormed (r.build f' d) := by
  refine List.forall_iff_forall_mem.mp ?_
  and_intros <;> exact fun _ _ _ => ⟨rfl, rfl⟩

/-- The row of a code byte makes, of the byte's detail, a well-formed instruction with that code byte: a finite fact,
evaluated on the 256 code bytes. -/
theorem code_wellFormed_of_row : ∀ (c : BitVec 3) (d : BitVec 5), ∀ r ∈ rowOf (codeWord (c ++ d)),
    instrCodeByte (r.build ⟨0, 0, 0, 0⟩ d) = c ++ d ∧ WellFormed (r.build ⟨0, 0, 0, 0⟩ d) := by
  decide

end Sys2Proof.Machine

namespace Sys2Proof.Laws.RowOfEncoding

/-- The whole family: the row that an encoding selects bears the mnemonic of its instruction. -/
theorem of_instr : ∀ i, Statement i
  | .methodEmpty f => methodEmpty f
  | .methodGet f => methodGet f
  | .methodPost f => methodPost f
  | .methodOther3 f => methodOther3 f
  | .methodOther4To7 f d => methodOther4To7 f d
  | .invalidMethod8To15 f d => invalidMethod8To15 f d
  | .invalidMethod16To31 f d => invalidMethod16To31 f d
  | .invalidClass1 f d => invalidClass1 f d
  | .successCreated f => successCreated f
  | .successDeleted f => successDeleted f
  | .successOther2To3 f d => successOther2To3 f d
  | .successOther4To5 f d => successOther4To5 f d
  | .invalidSuccess6To7 f d => invalidSuccess6To7 f d
  | .invalidSuccess8To15 f d => invalidSuccess8To15 f d
  | .invalidSuccess16To23 f d => invalidSuccess16To23 f d
  | .invalidSuccess24To27 f d => invalidSuccess24To27 f d
  | .invalidSuccess28To29 f d => invalidSuccess28To29 f d
  | .invalidSuccess30 f => invalidSuccess30 f
  | .successOther31 f => successOther31 f
  | .invalidClass3 f d => invalidClass3 f d
  | .clientErrorBadRequest f => clientErrorBadRequest f
  | .clientErrorUnauthorized f => clientErrorUnauthorized f
  | .clientErrorOther2To3 f d => clientErrorOther2To3 f d
  | .clientErrorOther4To7 f d => clientErrorOther4To7 f d
  | .clientErrorOther8To9 f d => clientErrorOther8To9 f d
  | .invalidClientError10To11 f d => invalidClientError10To11 f d
  | .clientErrorOther12To13 f d => clientErrorOther12To13 f d
  | .invalidClientError14 f => invalidClientError14 f
  | .clientErrorOther15 f => clientErrorOther15 f
  | .invalidClientError16To31 f d => invalidClientError16To31 f d
  | .serverErrorInternal f => serverErrorInternal f
  | .serverErrorNotImplemented f => serverErrorNotImplemented f
  | .serverErrorOther2To3 f d => serverErrorOther2To3 f d
  | .serverErrorOther4To5 f d => serverErrorOther4To5 f d
  | .invalidServerError6To7 f d => invalidServerError6To7 f d
  | .invalidServerError8To15 f d => invalidServerError8To15 f d
  | .invalidServerError16To31 f d => invalidServerError16To31 f d
  | .invalidClass6 f d => invalidClass6 f d
  | .signalingUnassigned f => signalingUnassigned f
  | .signalingCsm f => signalingCsm f
  | .signalingOther2To3 f d => signalingOther2To3 f d
  | .signalingOther4To5 f d => signalingOther4To5 f d
  | .invalidSignaling6To7 f d => invalidSignaling6To7 f d
  | .invalidSignaling8To15 f d => invalidSignaling8To15 f d
  | .invalidSignaling16To31 f d => invalidSignaling16To31 f d

end Sys2Proof.Laws.RowOfEncoding

namespace Sys2Proof.Machine

/-- The row with a given mnemonic. -/
def rowNamed (mnemonic : String) : Option OpRow := opTable.find? fun r => r.mnemonic == mnemonic

theorem mnemonics_nodup : (opTable.map OpRow.mnemonic).Nodup := by decide

/-- A mnemonic names one row, so a row is found by its own mnemonic. -/
theorem rowNamed_mnemonic {r : OpRow} (hr : r ∈ opTable) : rowNamed r.mnemonic = some r := by
  have hfound : (rowNamed r.mnemonic).isSome := List.find?_isSome.mpr ⟨r, hr, by simp⟩
  obtain ⟨r', hr'⟩ := Option.isSome_iff_exists.mp hfound
  have hname : r'.mnemonic = r.mnemonic := by simpa using List.find?_some hr'
  have heq := List.inj_on_of_nodup_map mnemonics_nodup (List.mem_of_find?_eq_some hr') hr hname
  rw [hr', heq]

/-- An instruction is what the row of its mnemonic makes of its free fields and of the detail in its code byte. -/
theorem exists_build_eq (i : Instr) : ∃ (c : BitVec 3) (d : BitVec 5), instrCodeByte i = c ++ d ∧
    (rowNamed (instrMnemonic i)).map (fun r => r.build (instrFields i) d) = some i := by
  cases i <;> exact ⟨_, _, rfl, rfl⟩

/-- The row of an encoding makes the instruction again: its mnemonic is the instruction's, and names one row. -/
theorem exists_row_of_encode {i : Instr} (h : WellFormed i) : ∃ r, rowOf (codeWord (encode i).b1) = some r ∧
    r.build (hdrFields (encode i)) (extDetail5 (encode i)) = i := by
  obtain ⟨r, hrow, hname⟩ := Option.map_eq_some_iff.mp (Laws.RowOfEncoding.of_instr i h)
  obtain ⟨c, d, hcode, hbuild⟩ := exists_build_eq i
  rw [← hname, rowNamed_mnemonic (List.mem_of_find?_eq_some hrow), Option.map_some, Option.some_inj] at hbuild
  refine ⟨r, by rw [← rowOf_eq_codeRow, hrow], ?_⟩
  rw [hdrFields_encode, extDetail5_of_b1_eq_append hcode, hbuild]

/-- The row of a header makes, of the header's fields, a well-formed instruction that encodes to the header. -/
theorem exists_row_encode_eq (b : HeaderBytes) : ∃ r, rowOf (codeWord b.b1) = some r ∧
    WellFormed (r.build (hdrFields b) (extDetail5 b)) ∧ encode (r.build (hdrFields b) (extDetail5 b)) = b := by
  obtain ⟨r, hmem, hrow, -⟩ := exists_row_outcome b
  have hr : rowOf (codeWord (extClass b ++ extDetail5 b)) = some r := by rw [← b1_eq_append, hrow]
  obtain ⟨hcode, hwf⟩ := code_wellFormed_of_row _ _ r hr
  obtain ⟨hcode', hwf'⟩ := code_wellFormed_build r hmem (hdrFields b) ⟨0, 0, 0, 0⟩ (extDetail5 b)
  exact ⟨r, hrow, hwf'.trans hwf,
    encode_eq_of_fields (instrFields_build r hmem ..) (hcode'.trans (hcode.trans (b1_eq_append b).symm))⟩

/-- Every header word is accepted by a row of the table. -/
theorem exists_accepts (w : Word) : ∃ r ∈ opTable, r.accepts w = true := by
  obtain ⟨r, hmem, hrow, -⟩ := exists_row_outcome (HeaderBytes.ofWord w)
  rw [← rowOf_eq_codeRow, toWord_ofWord, rowOf] at hrow
  exact ⟨r, hmem, by simpa using List.find?_some hrow⟩

/-- Rows that accept a common word stand at one position of the table. -/
theorem index_unique_of_accepts {w : Word} {j k : Nat} (hj : j < opTable.length) (hk : k < opTable.length)
    (haj : opTable[j].accepts w = true) (hak : opTable[k].accepts w = true) : j = k := by
  have hdisjoint := List.pairwise_iff_getElem.mp rows_disjoint
  rcases Nat.lt_trichotomy j k with hlt | heq | hlt
  · exact absurd ⟨haj, hak⟩ (hdisjoint j k hj hk hlt w)
  · exact heq
  · exact absurd ⟨hak, haj⟩ (hdisjoint k j hk hj hlt w)

end Sys2Proof.Machine

/-! PROOFS. The statements on the encoding, `30_encoding.md`. -/

namespace Sys2Proof.Machine

/-- Settles O3: the row of the encoding is the instruction's own, and makes it from the fields read back. -/
theorem decodeOfEncodeIsTheInstruction : Obligations.DecodeOfEncodeIsTheInstruction := by
  unfold Obligations.DecodeOfEncodeIsTheInstruction
  intro i h
  obtain ⟨r, hrow, hbuild⟩ := exists_row_of_encode h
  rw [decodeInstr_of_row hrow, hbuild]

/-- Settles O4: a header's row makes a well-formed instruction that holds every field of the header. -/
theorem everyHeaderDecodesAndEncodesBack : Obligations.EveryHeaderDecodesAndEncodesBack := by
  unfold Obligations.EveryHeaderDecodesAndEncodesBack
  intro b
  obtain ⟨r, hrow, hwf, hencode⟩ := exists_row_encode_eq b
  exact ⟨_, decodeInstr_of_row hrow, hwf, hencode⟩

/-- Settles O5: some row accepts each word, and rows at two positions accept no common word. -/
theorem rowsPartitionHeaderWords : Obligations.RowsPartitionHeaderWords := by
  unfold Obligations.RowsPartitionHeaderWords
  refine ⟨rfl, fun w => ?_⟩
  obtain ⟨r, hmem, hacc⟩ := exists_accepts w
  obtain ⟨k, hk, rfl⟩ := List.mem_iff_getElem.mp hmem
  exact ⟨k, hk, hacc, fun j hj haj => index_unique_of_accepts hj hk haj hacc⟩

/-- Settles O8: a step is DECODE of the input, whose result only the code's outcome decides. -/
theorem freeFieldsHaveNoInvalidValue : Obligations.FreeFieldsHaveNoInvalidValue := by
  unfold Obligations.FreeFieldsHaveNoInvalidValue
  refine ⟨fun s q hq => ?_, fun raw => ?_⟩
  · obtain ⟨type, htype, hdecode⟩ := decodeHeader_eq s.inputBytes
    rw [hq] at hdecode
    exact ⟨_, type, step_eq s, congrArg some hdecode, htype.symm⟩
  · obtain ⟨type, htype⟩ := exists_typeNumber raw
    exact ⟨type, htype.symm⟩

end Sys2Proof.Machine

/-! PROOFS. What the extractions, the type validator and DECODE give, one lemma for each, `40_extract.md`. -/

namespace Sys2Proof.Machine

theorem extDetail_toNat (b : HeaderBytes) : (extDetail b).toNat = (extDetail5 b).toNat :=
  BitVec.toNat_setWidth_of_le (by decide)

/-- The class is read back from the two parts of the code byte. -/
theorem extClass_of_b1_eq_append {b : HeaderBytes} {c : BitVec 3} {d : BitVec 5} (h : b.b1 = c ++ d) :
    extClass b = c := by
  rw [extClass, h]
  exact (by decide : ∀ (c : BitVec 3) (d : BitVec 5), ((c ++ d : Byte) >>> 5).setWidth 3 = c) c d

/-- The wires of `hdr_in` that carry each field but the message id (for which see `extMid_eq_extractLsb'`),
`10_state.md` R25. -/
theorem extractLsb'_toWord (b : HeaderBytes) :
    b.toWord.extractLsb' 30 2 = extVersion b ∧ b.toWord.extractLsb' 28 2 = extType b ∧
    b.toWord.extractLsb' 24 4 = extTkl b ∧ b.toWord.extractLsb' 21 3 = extClass b ∧
    b.toWord.extractLsb' 16 5 = extDetail5 b := by
  have hweights := toWord_toNat b
  rw [b0_toNat, b1_toNat] at hweights
  have htype := (extType b).isLt
  have htkl := (extTkl b).isLt
  have hclass := (extClass b).isLt
  have hdetail := (extDetail5 b).isLt
  and_intros <;>
  · apply BitVec.eq_of_toNat_eq
    rw [BitVec.extractLsb'_toNat, Nat.shiftRight_eq_div_pow]
    omega

/-- All that the type validator can raise. -/
theorem msgTypeOfRaw_eq_err {t : Byte} {e : DecodeError} (h : msgTypeOfRaw t = .err e) :
    e = .invalidMessageType t := by
  unfold msgTypeOfRaw at h
  split_ifs at h
  cases h
  rfl

theorem msgTypeOfRaw_of_four_le {t : Byte} (h : 4 ≤ t) : msgTypeOfRaw t = .err (.invalidMessageType t) := by
  have hne : ∀ k : Byte, k < 4 → t ≠ k := by
    rintro k hk rfl
    exact absurd h (BitVec.not_le.mpr hk)
  rw [msgTypeOfRaw, if_neg (hne 0 (by decide)), if_neg (hne 1 (by decide)), if_neg (hne 2 (by decide)),
    if_neg (hne 3 (by decide))]

theorem Decoded.map_eq_err_iff {α β : Type} {f : α → β} {x : Decoded α} {e : DecodeError} :
    x.map f = .err e ↔ x = .err e := by
  cases x <;> simp [Decoded.map]

/-- All that a class decoder can raise. -/
theorem classifyDetail_eq_err {ε : Type} {K : Config.ClassEntry ε} {other : Byte → ε} {d : Byte} {e : DecodeError}
    (h : classifyDetail K other d = .err e) : e = .invalidCode K.tag d := by
  unfold classifyDetail at h
  split at h
  next => cases h
  next =>
    split at h
    next => cases h
    next =>
      cases h
      rfl

/-- All that CODE.DECODE can raise: the error carries the class and the detail it was given. -/
theorem decodeCode_eq_err {c : BitVec 3} {d : Byte} {e : DecodeError} (h : decodeCode c d = .err e) :
    e = .invalidCode c d := by
  unfold decodeCode at h
  split_ifs at h with hc hc hc hc hc
  case neg =>
    cases h
    rfl
  all_goals
    rw [hc]
    exact classifyDetail_eq_err (Decoded.map_eq_err_iff.mp h)

/-- The classes without a line in the class table raise on every detail, `41_code_taxonomy.md` R107. -/
theorem decodeCode_of_invalid_class {c : BitVec 3} (h : c = 1 ∨ c = 3 ∨ c = 6) (d : Byte) :
    decodeCode c d = .err (.invalidCode c d) := by
  rcases h with rfl | rfl | rfl <;> rfl

/-- Of a class whose named details are named variants and whose `Other` is none, a decoded code is a named variant exactly
when its detail is a named value. -/
theorem isNamedVariant_of_classCode {ε : Type} {K : Config.ClassEntry ε} {other : Byte → ε} {code : ε → RqCode}
    {d : Byte} {q : RqCode} (hclass : ∀ e, namedInClassOf (code e) = isNamed K)
    (hnamed : ∀ p ∈ K.named, isNamedVariant (code p.2) = true)
    (hother : ∀ v, isNamedVariant (code (other v)) = false) (h : (classifyDetail K other d).map code = .ok q) :
    isNamedVariant q = namedInClassOf q d := by
  obtain ⟨e, he, rfl⟩ := Decoded.map_eq_ok_iff.mp h
  rw [hclass]
  rcases classifyDetail_ok_cases he with hl | ⟨hl, -, rfl⟩
  · obtain ⟨l₁, l₂, hl, -⟩ := List.lookup_eq_some_iff.mp hl
    rw [hnamed (d, e) (by simp [hl])]
    simp [isNamed, hl]
  · rw [hother]
    refine (List.any_eq_false.mpr fun p hp => ?_).symm
    rw [BEq.comm]
    simpa using List.lookup_eq_none_iff.mp hl p hp

/-- The bit `code_named` of a decoded code is membership of its detail in the class's named values, `10_state.md` R26. -/
theorem isNamedVariant_of_decodeCode {c : BitVec 3} {d : Byte} {q : RqCode} (h : decodeCode c d = .ok q) :
    isNamedVariant q = namedInClassOf q d := by
  unfold decodeCode at h
  split_ifs at h
  all_goals exact isNamedVariant_of_classCode (fun _ => rfl) (by decide) (fun _ => rfl) h

/-- The 40 valid code bytes, `41_code_taxonomy.md` R110. -/
def validCodeBytes : List Byte :=
  [ 0x00, 0x01, 0x02, 0x03, 0x04, 0x05, 0x06, 0x07, 0x40, 0x41, 0x42, 0x43, 0x44, 0x45,
    0x5F, 0x80, 0x81, 0x82, 0x83, 0x84, 0x85, 0x86, 0x87, 0x88, 0x89, 0x8C, 0x8D, 0x8F,
    0xA0, 0xA1, 0xA2, 0xA3, 0xA4, 0xA5, 0xE0, 0xE1, 0xE2, 0xE3, 0xE4, 0xE5 ]

/-- The class table rejects a wire pair exactly when its code byte is not in the list: a finite fact, evaluated on the 256
code bytes. -/
theorem decodeCode_zextDetail_eq_err_iff : ∀ (c : BitVec 3) (d : BitVec 5),
    decodeCode c (zextDetail d) = .err (.invalidCode c (zextDetail d)) ↔ c ++ d ∉ validCodeBytes := by
  decide

theorem decodeCode_ext_eq_err_iff (b : HeaderBytes) :
    decodeCode (extClass b) (extDetail b) = .err (.invalidCode (extClass b) (extDetail b)) ↔
      b.b1 ∉ validCodeBytes := by
  rw [b1_eq_append]
  exact decodeCode_zextDetail_eq_err_iff ..

theorem decodeHeader_of_ok {b : HeaderBytes} {type : MsgType} {q : RqCode} (htype : extType b = typeNumber type)
    (hq : decodeCode (extClass b) (extDetail b) = .ok q) :
    decodeHeader b = .ok ⟨extVersion b, type, extTkl b, q, extMid b⟩ := by
  rw [decodeHeader, assemble, htype, msgTypeOfRaw_typeNumber, hq]

theorem decodeHeader_of_err {b : HeaderBytes} {e : DecodeError}
    (he : decodeCode (extClass b) (extDetail b) = .err e) :
    decodeHeader b = .err (.invalidCode (extClass b) (extDetail b)) := by
  obtain ⟨_, -, heq⟩ := decodeHeader_eq b
  rw [heq, Decoded.map_eq_err_iff, he, decodeCode_eq_err he]

/-- Whether DECODE returns a header depends on the code byte alone. -/
theorem okPort_decodeHeader_congr {b b' : HeaderBytes} (h : b.b1 = b'.b1) :
    okPort (decodeHeader b) = okPort (decodeHeader b') := by
  have hcode : decodeCode (extClass b) (extDetail b) = decodeCode (extClass b') (extDetail b') := by
    simp only [extClass, extDetail, extDetail5, h]
  obtain ⟨_, -, heq⟩ := decodeHeader_eq b
  obtain ⟨_, -, heq'⟩ := decodeHeader_eq b'
  rw [heq, heq', hcode]
  cases decodeCode (extClass b') (extDetail b') <;> rfl

end Sys2Proof.Machine

/-! PROOFS. The statements on the extraction and on DECODE, `40_extract.md`. -/

namespace Sys2Proof.Machine

/-- Settles O26: the row of the code byte has the outcome of the class table (`codeRowOutcome_eq`), and every row ends in
the validations of DECODE on that outcome. -/
theorem stepIsTheDecodeFunction : Obligations.StepIsTheDecodeFunction := by
  unfold Obligations.StepIsTheDecodeFunction
  exact step_eq

/-- Settles O9: bits 29 and 28 are the raw type, which is the number of its message type. -/
theorem typeFieldSelectsTheMessageType : Obligations.TypeFieldSelectsTheMessageType := by
  unfold Obligations.TypeFieldSelectsTheMessageType
  intro s q b hq returned
  obtain ⟨-, hwires, -⟩ := extractLsb'_toWord b
  have hstep : ∀ type, s.hdrIn.extractLsb' 28 2 = typeNumber type → step s = .next (returned type) := by
    intro type htype
    rw [step_eq, decodeHeader_of_ok (hwires.symm.trans htype) hq]
  exact ⟨hstep .confirmable, hstep .nonConfirmable, hstep .acknowledgment, hstep .reset, rfl, rfl, rfl, rfl⟩

/-- Settles O25: a step returns DECODE of the input, which is a header exactly when the class table accepts the code
byte. -/
theorem stepReturnsOkOnExactlyFortyCodeBytes : Obligations.StepReturnsOkOnExactlyFortyCodeBytes := by
  unfold Obligations.StepReturnsOkOnExactlyFortyCodeBytes
  refine ⟨rfl, by decide, fun s => ⟨_, step_eq s, fun hvalid => ?_, fun hinvalid => ?_⟩⟩
  · cases hcode : decodeCode (extClass s.inputBytes) (extDetail s.inputBytes) with
    | ok q =>
      obtain ⟨type, htype⟩ := exists_typeNumber (extType s.inputBytes)
      exact ⟨_, congrArg some (decodeHeader_of_ok htype hcode)⟩
    | err e =>
      rw [decodeCode_eq_err hcode, decodeCode_ext_eq_err_iff] at hcode
      exact absurd hvalid hcode
  · exact ⟨_, _, congrArg some (decodeHeader_of_err ((decodeCode_ext_eq_err_iff _).mpr hinvalid))⟩

/-- Settles O33: the header is that of the extracted fields, each of which is a field of `hdr_in`, and the code's tag,
number and named bit are those of the class and the detail. -/
theorem portsOfAnAcceptedHeader : Obligations.PortsOfAnAcceptedHeader := by
  unfold Obligations.PortsOfAnAcceptedHeader
  intro s q hq
  obtain ⟨type, htype⟩ := exists_typeNumber (extType s.inputBytes)
  obtain ⟨htag, hnumber⟩ := tag_number_of_decodeCode hq
  obtain ⟨hversion, hmtype, htkl, hclass, hdetail⟩ := extractLsb'_toWord s.inputBytes
  have hwire : (s.inputBytes.toWord.extractLsb' 16 5).setWidth 8 = detailNumber q :=
    (congrArg zextDetail hdetail).trans hnumber.symm
  rw [State.ports, decodeHeader_of_ok htype hq, State.hdrIn, hversion, hmtype, htkl, hclass, hwire,
    ← extMid_eq_extractLsb', ← isNamedVariant_of_decodeCode hq, htype, ← htag]
  rfl

/-- Settles O34: the result is the error with the raw pair, which are fields of `hdr_in`, and no header. -/
theorem portsOfARejectedHeader : Obligations.PortsOfARejectedHeader := by
  unfold Obligations.PortsOfARejectedHeader
  intro s e he
  obtain ⟨-, -, -, hclass, hdetail⟩ := extractLsb'_toWord s.inputBytes
  rw [State.ports, decodeHeader_of_err he, State.hdrIn, hclass, hdetail]
  rfl

/-- Settles O7: the bytes are the sums of their fields by weight, and only the code byte decides whether DECODE returns a
header. -/
theorem extractionsAreShiftsAndMasks : Obligations.ExtractionsAreShiftsAndMasks := by
  unfold Obligations.ExtractionsAreShiftsAndMasks
  refine ⟨fun b => ?_, fun c => ?_, fun c d hc => ⟨_, decodeCode_of_invalid_class hc d⟩, by decide,
    fun b b' => okPort_decodeHeader_congr⟩
  · have hb0 := b0_toNat b
    have hb1 := b1_toNat b
    have htype := (extType b).isLt
    have htkl := (extTkl b).isLt
    have hdetail5 := (extDetail5 b).isLt
    have hdetail := extDetail_toNat b
    exact ⟨by omega, by omega, by omega, by omega, by omega, extMid_toNat b⟩
  · exact ⟨⟨0, c ++ 0#5, 0, 0⟩, extClass_of_b1_eq_append rfl⟩

/-- Settles O10: the validator's five branches, and the raw type of the wire is always the number of a type. -/
theorem typeValidatorFailsOnlyOffTheWire : Obligations.TypeValidatorFailsOnlyOffTheWire := by
  unfold Obligations.TypeValidatorFailsOnlyOffTheWire
  refine ⟨fun t => ?_, fun b => ⟨?_, ?_⟩⟩
  · exact ⟨by rintro rfl; rfl, by rintro rfl; rfl, by rintro rfl; rfl, by rintro rfl; rfl, msgTypeOfRaw_of_four_le⟩
  · have hb0 := b0_toNat b
    have htype := (extType b).isLt
    have htkl := (extTkl b).isLt
    omega
  · obtain ⟨type, htype⟩ := exists_typeNumber (extType b)
    exact ⟨type, by rw [htype, msgTypeOfRaw_typeNumber], htype.symm⟩

/-- Settles O11: DECODE examines the type first, and the validator raises only the error that carries the raw type. -/
theorem typeErrorHidesTheCode : Obligations.TypeErrorHidesTheCode := by
  unfold Obligations.TypeErrorHidesTheCode
  intro version t tokenLength code messageId e he
  have heq := msgTypeOfRaw_eq_err he
  exact ⟨heq, by rw [assemble, he, heq]⟩

end Sys2Proof.Machine

/-! PROOFS. What each row does and which code bytes are its own, and the general decode rule of a class,
`41_code_taxonomy.md` R80 and R81. -/

namespace Sys2Proof.Machine

/-- A row with a code returns the header of its free fields and that code, and changes nothing else. -/
theorem exec_of_ok {i : Instr} {version : BitVec 2} {type : MsgType} {tokenLength : BitVec 4} {messageId : BitVec 16}
    {q : RqCode} (hf : instrFields i = ⟨version, typeNumber type, tokenLength, messageId⟩)
    (hq : instrOutcome i = .ok q) (s : State) :
    exec i s = .next { s with result := some (.ok ⟨version, type, tokenLength, q, messageId⟩) } := by
  rw [exec_eq, hf, hq, assemble, msgTypeOfRaw_typeNumber]

/-- A row with an error returns it whatever its free fields are, and changes nothing else. -/
theorem exec_of_err {i : Instr} {e : DecodeError} (he : instrOutcome i = .err e) (s : State) :
    exec i s = .next { s with result := some (.err e) } := by
  obtain ⟨type, htype⟩ := exists_typeNumber (instrFields i).typeRaw
  rw [exec_eq, htype, he, assemble, msgTypeOfRaw_typeNumber]

/-- A header decodes to the well-formed instruction that has its free fields and its code byte. -/
theorem decodeInstr_of_codeByte {b : HeaderBytes} {i : Instr} (hf : instrFields i = hdrFields b) (hwf : WellFormed i)
    (hc : b.b1 = instrCodeByte i) : decodeInstr b = .ok i := by
  rw [← encode_eq_of_fields hf hc.symm]
  exact decodeOfEncodeIsTheInstruction i hwf

/-- Code bytes between two of the class `c` are of that class, with a detail between the two details. -/
theorem detail_of_codeByte_between {c : BitVec 3} {lo hi : BitVec 5} {b : HeaderBytes} (hlo : c ++ lo ≤ b.b1)
    (hhi : b.b1 ≤ c ++ hi) : c ++ extDetail5 b = b.b1 ∧ inRange lo hi (extDetail5 b) = true := by
  have hb1 := b1_toNat b
  have hlt := (extDetail5 b).isLt
  rw [BitVec.le_def, toNat_append_eq] at hlo hhi
  have hclass : extClass b = c := BitVec.eq_of_toNat_eq (by omega)
  rw [hclass] at hb1
  refine ⟨by rw [← hclass, ← b1_eq_append], ?_⟩
  simp only [inRange, Bool.and_eq_true, decide_eq_true_eq, BitVec.le_def]
  omega

/-- A row of the class `c` whose details are `lo` to `hi` is the row of the code bytes `c ++ lo` to `c ++ hi`. -/
theorem decodeInstr_of_between (c : BitVec 3) (lo hi : BitVec 5) {b : HeaderBytes} {i : Instr}
    (hf : instrFields i = hdrFields b) (hwf : inRange lo hi (extDetail5 b) = true → WellFormed i)
    (hc : instrCodeByte i = c ++ extDetail5 b) (hlo : c ++ lo ≤ b.b1) (hhi : b.b1 ≤ c ++ hi) :
    decodeInstr b = .ok i := by
  obtain ⟨hb1, hrange⟩ := detail_of_codeByte_between hlo hhi
  exact decodeInstr_of_codeByte hf (hwf hrange) (hb1.symm.trans hc.symm)

section
variable {ε : Type} {K : Config.ClassEntry ε} {other : Byte → ε} {code : ε → RqCode} {d : Byte}

theorem isNamed_iff : isNamed K d = true ↔ d ∈ K.named.map Prod.fst := by
  simp [isNamed]

theorem isValid_iff : isValid K d = true ↔ d ≤ K.ceiling ∨ d ∈ K.extra := by
  simp [isValid]

theorem lookup_named_eq_none_iff : K.named.lookup d = none ↔ isNamed K d = false := by
  simp [List.lookup_eq_none_iff, isNamed, @eq_comm _ d]

/-- The first case of R81: the variant is one that the table lists with the detail. -/
theorem classifyDetail_of_named (h : isNamed K d = true) :
    ∃ e, (d, e) ∈ K.named ∧ classifyDetail K other d = .ok e := by
  cases hl : K.named.lookup d with
  | some e =>
    obtain ⟨l₁, l₂, hsplit, -⟩ := List.lookup_eq_some_iff.mp hl
    exact ⟨e, by simp [hsplit], by rw [classifyDetail, hl]⟩
  | none =>
    rw [lookup_named_eq_none_iff.mp hl] at h
    cases h

/-- The second case of R81: a valid detail without a name is kept as it is. -/
theorem classifyDetail_of_other (hn : isNamed K d = false) (hv : d ≤ K.ceiling ∨ d ∈ K.extra) :
    classifyDetail K other d = .ok (other d) := by
  rw [classifyDetail, lookup_named_eq_none_iff.mpr hn]
  exact if_pos (isValid_iff.mpr hv)

/-- The third case of R81: any other detail is a decode failure. -/
theorem classifyDetail_of_not_valid (hn : isNamed K d = false) (hv : ¬ (d ≤ K.ceiling ∨ d ∈ K.extra)) :
    classifyDetail K other d = .err (.invalidCode K.tag d) := by
  rw [classifyDetail, lookup_named_eq_none_iff.mpr hn]
  exact if_neg (mt isValid_iff.mp hv)

theorem isValid_of_isNamed (hle : ∀ p ∈ K.named, p.1 ≤ K.ceiling) (hn : isNamed K d = true) : isValid K d = true := by
  obtain ⟨p, hp, rfl⟩ := List.mem_map.mp (isNamed_iff.mp hn)
  exact isValid_iff.mpr (.inl (hle p hp))

theorem isNamed_eq_false_of_le {m : Byte} (hlt : ∀ p ∈ K.named, p.1 < m) (hd : m ≤ d) : isNamed K d = false := by
  refine Bool.eq_false_iff.mpr fun hn => ?_
  obtain ⟨p, hp, rfl⟩ := List.mem_map.mp (isNamed_iff.mp hn)
  exact absurd (hlt p hp) (BitVec.not_lt.mpr hd)

/-- In a class whose named details lie below `m`, a valid detail from `m` up is `Other`. -/
theorem classCode_of_other {m : Byte} (hlt : ∀ p ∈ K.named, p.1 < m) (hd : m ≤ d)
    (hv : d ≤ K.ceiling ∨ d ∈ K.extra) : (classifyDetail K other d).map code = .ok (code (other d)) := by
  rw [classifyDetail_of_other (isNamed_eq_false_of_le hlt hd) hv, Decoded.map]

theorem exists_classCode_iff (hle : ∀ p ∈ K.named, p.1 ≤ K.ceiling) :
    (∃ q, (classifyDetail K other d).map code = .ok q) ↔ isValid K d = true := by
  constructor
  · rintro ⟨q, hq⟩
    obtain ⟨e, he, -⟩ := Decoded.map_eq_ok_iff.mp hq
    rcases classifyDetail_ok_cases he with hl | ⟨-, hv, -⟩
    · refine isValid_of_isNamed hle (Bool.eq_true_of_not_eq_false fun hn => ?_)
      rw [lookup_named_eq_none_iff.mpr hn] at hl
      cases hl
    · exact hv
  · intro hv
    cases hn : isNamed K d with
    | true =>
      obtain ⟨e, -, he⟩ := classifyDetail_of_named (other := other) hn
      exact ⟨code e, by rw [he, Decoded.map]⟩
    | false => exact ⟨code (other d), by rw [classifyDetail_of_other hn (isValid_iff.mp hv), Decoded.map]⟩

end

/-! CODE.DECODE on the five classes of the table. -/

theorem decodeCode_method (d : Byte) :
    decodeCode 0 d = (classifyDetail classTable.method .other d).map .method := rfl

theorem decodeCode_success (d : Byte) :
    decodeCode 2 d = (classifyDetail classTable.success .other d).map .success := rfl

theorem decodeCode_clientError (d : Byte) :
    decodeCode 4 d = (classifyDetail classTable.clientError .other d).map .clientError := rfl

theorem decodeCode_serverError (d : Byte) :
    decodeCode 5 d = (classifyDetail classTable.serverError .other d).map .serverError := rfl

theorem decodeCode_signaling (d : Byte) :
    decodeCode 7 d = (classifyDetail classTable.signaling .other d).map .signaling := rfl

/-- CODE.DECODE accepts, under the tag of a code, the details that are valid in the code's class. -/
theorem exists_decodeCode_iff (q : RqCode) (d : Byte) :
    (∃ q', decodeCode (codeTag q) d = .ok q') ↔ validInClassOf q d = true := by
  cases q with
  | method _ => exact exists_classCode_iff (by decide)
  | success _ => exact exists_classCode_iff (by decide)
  | clientError _ => exact exists_classCode_iff (by decide)
  | serverError _ => exact exists_classCode_iff (by decide)
  | signaling _ => exact exists_classCode_iff (by decide)

/-- The pairs of a class and a detail that the class table accepts, in numbers, `41_code_taxonomy.md` R80. -/
def AcceptedPair (c : BitVec 3) (d : Byte) : Prop :=
  (c = 0 ∧ d ≤ 7) ∨ (c = 2 ∧ (d ≤ 5 ∨ d = 31)) ∨ (c = 4 ∧ (d ≤ 9 ∨ d = 12 ∨ d = 13 ∨ d = 15)) ∨
    (c = 5 ∧ d ≤ 5) ∨ (c = 7 ∧ d ≤ 5)

theorem validInClassOf_iff (q : RqCode) (d : Byte) : validInClassOf q d = true ↔ AcceptedPair (codeTag q) d := by
  cases q <;> exact isValid_iff.trans (by simp [codeTag, classTable, AcceptedPair])

theorem namedInClassOf_iff (q : RqCode) (d : Byte) :
    namedInClassOf q d = true ↔ d ≤ 1 ∨ (codeTag q = 0 ∧ d = 2) := by
  have hle : d ≤ 1#8 ↔ d = 0#8 ∨ d = 1#8 := by bv_omega
  cases q <;> exact isNamed_iff.trans (by simp [codeTag, classTable, hle, or_assoc])

/-- A class is the tag of a code, or one of the three that have no line in the table. -/
theorem exists_codeTag_or (c : BitVec 3) : (∃ q, codeTag q = c) ∨ c = 1 ∨ c = 3 ∨ c = 6 := by
  rcases (by decide : ∀ c : BitVec 3, (c = 0 ∨ c = 2 ∨ c = 4 ∨ c = 5 ∨ c = 7) ∨ c = 1 ∨ c = 3 ∨ c = 6) c with h | h
  · rcases h with rfl | rfl | rfl | rfl | rfl
    exacts [.inl ⟨.method .empty, rfl⟩, .inl ⟨.success .created, rfl⟩, .inl ⟨.clientError .badRequest, rfl⟩,
      .inl ⟨.serverError .internal, rfl⟩, .inl ⟨.signaling .unassigned, rfl⟩]
  · exact .inr h

theorem exists_decodeCode_iff_acceptedPair (c : BitVec 3) (d : Byte) :
    (∃ q, decodeCode c d = .ok q) ↔ AcceptedPair c d := by
  rcases exists_codeTag_or c with ⟨q, rfl⟩ | h
  · exact (exists_decodeCode_iff q d).trans (validInClassOf_iff q d)
  · refine iff_of_false (fun ⟨q, hq⟩ => ?_) ?_
    · rw [decodeCode_of_invalid_class h] at hq
      cases hq
    · rcases h with rfl | rfl | rfl <;> simp [AcceptedPair]

theorem decodeCode_of_not_acceptedPair {c : BitVec 3} {d : Byte} (h : ¬ AcceptedPair c d) :
    decodeCode c d = .err (.invalidCode c d) := by
  cases hc : decodeCode c d with
  | ok q => exact absurd ((exists_decodeCode_iff_acceptedPair c d).mp ⟨q, hc⟩) h
  | err e => rw [decodeCode_eq_err hc]

/-- The bytes of the classes without a line in the table, `41_code_taxonomy.md` R107. -/
theorem invalid_class_iff (b : HeaderBytes) : (extClass b = 1 ∨ extClass b = 3 ∨ extClass b = 6) ↔
    (0x20 ≤ b.b1 ∧ b.b1 ≤ 0x3F) ∨ (0x60 ≤ b.b1 ∧ b.b1 ≤ 0x7F) ∨ (0xC0 ≤ b.b1 ∧ b.b1 ≤ 0xDF) := by
  have hb1 := b1_toNat b
  have hdetail := (extDetail5 b).isLt
  bv_omega

end Sys2Proof.Machine

/-! PROOFS. The statements on the code classes, `41_code_taxonomy.md`. -/

namespace Sys2Proof.Machine

/-- Settles O23: the three cases of the rule, and in the five classes a decoded code is a named variant exactly when its
detail is named. -/
theorem classifyDetailHasThreeCases : Obligations.ClassifyDetailHasThreeCases := by
  unfold Obligations.ClassifyDetailHasThreeCases
  refine ⟨fun ε K other d => ⟨classifyDetail_of_named, classifyDetail_of_other,
    fun hn hc hx => classifyDetail_of_not_valid hn (not_or_intro hc hx)⟩, fun c d q hq => ?_, exists_decodeCode_iff⟩
  have hnamed := isNamedVariant_of_decodeCode hq
  obtain ⟨rfl, -⟩ := tag_number_of_decodeCode hq
  have hvalid := (exists_decodeCode_iff q d).mp ⟨q, hq⟩
  exact ⟨by rw [hnamed], by simp [hnamed, hvalid]⟩

/-- Settles O24: the table's classes accept the details that are valid in them, and a decoded code keeps its class and
detail. -/
theorem decodeCodeFollowsTheClassTable : Obligations.DecodeCodeFollowsTheClassTable := by
  unfold Obligations.DecodeCodeFollowsTheClassTable
  refine ⟨fun c d => ⟨fun hacc => ?_, decodeCode_of_not_acceptedPair⟩, rfl, rfl, rfl, rfl, rfl, rfl, rfl, rfl, rfl, rfl,
    rfl, fun d => ?_, rfl, by decide, by decide, rfl, rfl⟩
  · obtain ⟨q, hq⟩ := (exists_decodeCode_iff_acceptedPair c d).mpr hacc
    obtain ⟨htag, hnumber⟩ := tag_number_of_decodeCode hq
    exact ⟨q, hq, htag, hnumber, by rw [isNamedVariant_of_decodeCode hq, namedInClassOf_iff, htag]⟩
  · exact ⟨isValid_of_isNamed (by decide), isValid_of_isNamed (by decide), isValid_of_isNamed (by decide),
      isValid_of_isNamed (by decide), isValid_of_isNamed (by decide)⟩

/-- Settles O12: each row of class 0 has its own code and its own bytes, and the class table names no detail from 3 up. -/
theorem methodRowsReturnTheirCode : Obligations.MethodRowsReturnTheirCode := by
  unfold Obligations.MethodRowsReturnTheirCode
  refine ⟨fun _ _ _ _ s => ?_, fun b => ?_, rfl, rfl, rfl, fun d hlo hhi => ?_, rfl, rfl, rfl, rfl, rfl, rfl⟩
  · exact ⟨exec_of_ok rfl rfl s, exec_of_ok rfl rfl s, exec_of_ok rfl rfl s, exec_of_ok rfl rfl s,
      fun _ _ _ => exec_of_ok rfl rfl s⟩
  · exact ⟨fun h => decodeInstr_of_codeByte rfl rfl h, fun h => decodeInstr_of_codeByte rfl rfl h,
      fun h => decodeInstr_of_codeByte rfl rfl h, fun h => decodeInstr_of_codeByte rfl rfl h,
      decodeInstr_of_between 0 4 7 rfl id rfl⟩
  · exact (decodeCode_method d).trans (classCode_of_other (by decide) hlo (.inl hhi))

/-- Settles O13: the two rows reject the bytes that they match, and the table has no valid detail from 8 up. -/
theorem methodInvalidRowsRaiseInvalidCode : Obligations.MethodInvalidRowsRaiseInvalidCode := by
  unfold Obligations.MethodInvalidRowsRaiseInvalidCode
  refine ⟨fun f s => ?_, fun b => ?_, fun d hd => ?_, rfl⟩
  · exact ⟨fun _ _ _ => exec_of_err rfl s, fun _ _ _ => exec_of_err rfl s⟩
  · exact ⟨decodeInstr_of_between 0 8 15 rfl id rfl, decodeInstr_of_between 0 16 31 rfl id rfl⟩
  · exact decodeCode_of_not_acceptedPair (by unfold AcceptedPair; bv_omega)

/-- Settles O14: each row of class 2 has its own code and its own bytes, and the class table names no detail from 2 up. -/
theorem successRowsReturnTheirCode : Obligations.SuccessRowsReturnTheirCode := by
  unfold Obligations.SuccessRowsReturnTheirCode
  refine ⟨fun _ _ _ _ s => ?_, fun b => ?_, rfl, rfl, ?_, rfl, rfl⟩
  · exact ⟨exec_of_ok rfl rfl s, exec_of_ok rfl rfl s, fun _ _ _ => exec_of_ok rfl rfl s,
      fun _ _ _ => exec_of_ok rfl rfl s, exec_of_ok rfl rfl s⟩
  · exact ⟨fun h => decodeInstr_of_codeByte rfl rfl h, fun h => decodeInstr_of_codeByte rfl rfl h,
      decodeInstr_of_between 2 2 3 rfl id rfl, decodeInstr_of_between 2 4 5 rfl id rfl,
      fun h => decodeInstr_of_codeByte rfl rfl h⟩
  · rintro d (⟨hlo, hhi⟩ | rfl)
    · exact (decodeCode_success d).trans (classCode_of_other (by decide) hlo (.inl hhi))
    · rfl

/-- Settles O15: the six rows reject the bytes that they match, and above the ceiling only 31 is valid. -/
theorem successInvalidRowsRaiseInvalidCode : Obligations.SuccessInvalidRowsRaiseInvalidCode := by
  unfold Obligations.SuccessInvalidRowsRaiseInvalidCode
  refine ⟨fun f s => ?_, fun b => ?_, fun d hd => ?_⟩
  · exact ⟨fun _ _ _ => exec_of_err rfl s, fun _ _ _ => exec_of_err rfl s, fun _ _ _ => exec_of_err rfl s,
      fun _ _ _ => exec_of_err rfl s, fun _ _ _ => exec_of_err rfl s, exec_of_err rfl s⟩
  · exact ⟨decodeInstr_of_between 2 6 7 rfl id rfl, decodeInstr_of_between 2 8 15 rfl id rfl,
      decodeInstr_of_between 2 16 23 rfl id rfl, decodeInstr_of_between 2 24 27 rfl id rfl,
      decodeInstr_of_between 2 28 29 rfl id rfl, fun h => decodeInstr_of_codeByte rfl rfl h⟩
  · exact decodeCode_of_not_acceptedPair (by unfold AcceptedPair; bv_omega)

/-- Settles O16: each row of class 4 has its own code and its own bytes, and the class table names no detail from 2 up. -/
theorem clientErrorRowsReturnTheirCode : Obligations.ClientErrorRowsReturnTheirCode := by
  unfold Obligations.ClientErrorRowsReturnTheirCode
  refine ⟨fun _ _ _ _ s => ?_, fun b => ?_, rfl, rfl, ?_, rfl, rfl, rfl⟩
  · exact ⟨exec_of_ok rfl rfl s, exec_of_ok rfl rfl s, fun _ _ _ => exec_of_ok rfl rfl s,
      fun _ _ _ => exec_of_ok rfl rfl s, fun _ _ _ => exec_of_ok rfl rfl s, fun _ _ _ => exec_of_ok rfl rfl s,
      exec_of_ok rfl rfl s⟩
  · exact ⟨fun h => decodeInstr_of_codeByte rfl rfl h, fun h => decodeInstr_of_codeByte rfl rfl h,
      decodeInstr_of_between 4 2 3 rfl id rfl, decodeInstr_of_between 4 4 7 rfl id rfl,
      decodeInstr_of_between 4 8 9 rfl id rfl, decodeInstr_of_between 4 12 13 rfl id rfl,
      fun h => decodeInstr_of_codeByte rfl rfl h⟩
  · rintro d (⟨hlo, hhi⟩ | rfl | rfl | rfl)
    · exact (decodeCode_clientError d).trans (classCode_of_other (by decide) hlo (.inl hhi))
    all_goals rfl

/-- Settles O17: the three rows reject the bytes that they match, and above the ceiling only 12, 13 and 15 are valid. -/
theorem clientErrorInvalidRowsRaiseInvalidCode : Obligations.ClientErrorInvalidRowsRaiseInvalidCode := by
  unfold Obligations.ClientErrorInvalidRowsRaiseInvalidCode
  refine ⟨fun f s => ?_, fun b => ?_, fun d hd => ?_⟩
  · exact ⟨fun _ _ _ => exec_of_err rfl s, exec_of_err rfl s, fun _ _ _ => exec_of_err rfl s⟩
  · exact ⟨decodeInstr_of_between 4 10 11 rfl id rfl, fun h => decodeInstr_of_codeByte rfl rfl h,
      decodeInstr_of_between 4 16 31 rfl id rfl⟩
  · exact decodeCode_of_not_acceptedPair (by unfold AcceptedPair; bv_omega)

/-- Settles O18: each row of class 5 has its own code and its own bytes, and the class table names no detail from 2 up. -/
theorem serverErrorRowsReturnTheirCode : Obligations.ServerErrorRowsReturnTheirCode := by
  unfold Obligations.ServerErrorRowsReturnTheirCode
  refine ⟨fun _ _ _ _ s => ?_, fun b => ?_, rfl, rfl, fun d hlo hhi => ?_, rfl, rfl⟩
  · exact ⟨exec_of_ok rfl rfl s, exec_of_ok rfl rfl s, fun _ _ _ => exec_of_ok rfl rfl s,
      fun _ _ _ => exec_of_ok rfl rfl s⟩
  · exact ⟨fun h => decodeInstr_of_codeByte rfl rfl h, fun h => decodeInstr_of_codeByte rfl rfl h,
      decodeInstr_of_between 5 2 3 rfl id rfl, decodeInstr_of_between 5 4 5 rfl id rfl⟩
  · exact (decodeCode_serverError d).trans (classCode_of_other (by decide) hlo (.inl hhi))

/-- Settles O19: the three rows reject the bytes that they match, and the table has no valid detail from 6 up. -/
theorem serverErrorInvalidRowsRaiseInvalidCode : Obligations.ServerErrorInvalidRowsRaiseInvalidCode := by
  unfold Obligations.ServerErrorInvalidRowsRaiseInvalidCode
  refine ⟨fun f s => ?_, fun b => ?_, fun d hd => ?_, by decide⟩
  · exact ⟨fun _ _ _ => exec_of_err rfl s, fun _ _ _ => exec_of_err rfl s, fun _ _ _ => exec_of_err rfl s⟩
  · exact ⟨decodeInstr_of_between 5 6 7 rfl id rfl, decodeInstr_of_between 5 8 15 rfl id rfl,
      decodeInstr_of_between 5 16 31 rfl id rfl⟩
  · exact decodeCode_of_not_acceptedPair (by unfold AcceptedPair; bv_omega)

/-- Settles O20: each row of class 7 has its own code and its own bytes, and the class table names no detail from 2 up. -/
theorem signalingRowsReturnTheirCode : Obligations.SignalingRowsReturnTheirCode := by
  unfold Obligations.SignalingRowsReturnTheirCode
  refine ⟨fun _ _ _ _ s => ?_, fun b => ?_, rfl, rfl, fun d hlo hhi => ?_, rfl, rfl⟩
  · exact ⟨exec_of_ok rfl rfl s, exec_of_ok rfl rfl s, fun _ _ _ => exec_of_ok rfl rfl s,
      fun _ _ _ => exec_of_ok rfl rfl s⟩
  · exact ⟨fun h => decodeInstr_of_codeByte rfl rfl h, fun h => decodeInstr_of_codeByte rfl rfl h,
      decodeInstr_of_between 7 2 3 rfl id rfl, decodeInstr_of_between 7 4 5 rfl id rfl⟩
  · exact (decodeCode_signaling d).trans (classCode_of_other (by decide) hlo (.inl hhi))

/-- Settles O21: the three rows reject the bytes that they match, and the table has no valid detail from 6 up. -/
theorem signalingInvalidRowsRaiseInvalidCode : Obligations.SignalingInvalidRowsRaiseInvalidCode := by
  unfold Obligations.SignalingInvalidRowsRaiseInvalidCode
  refine ⟨fun f s => ?_, fun b => ?_, fun d hd => ?_⟩
  · exact ⟨fun _ _ _ => exec_of_err rfl s, fun _ _ _ => exec_of_err rfl s, fun _ _ _ => exec_of_err rfl s⟩
  · exact ⟨decodeInstr_of_between 7 6 7 rfl id rfl, decodeInstr_of_between 7 8 15 rfl id rfl,
      decodeInstr_of_between 7 16 31 rfl id rfl⟩
  · exact decodeCode_of_not_acceptedPair (by unfold AcceptedPair; bv_omega)

/-- Settles O22: the three rows have all 32 details of their class, and a step is DECODE, which raises the error of the
raw pair. -/
theorem invalidClassRowsRaiseInvalidCode : Obligations.InvalidClassRowsRaiseInvalidCode := by
  unfold Obligations.InvalidClassRowsRaiseInvalidCode
  refine ⟨fun f d s => ?_, fun b => ?_, fun s hclass => ?_, fun _ d hclass => decodeCode_of_invalid_class hclass d,
    invalid_class_iff⟩
  · exact ⟨exec_of_err rfl s, exec_of_err rfl s, exec_of_err rfl s⟩
  · exact ⟨decodeInstr_of_between 1 0 31 rfl (fun _ => rfl) rfl, decodeInstr_of_between 3 0 31 rfl (fun _ => rfl) rfl,
      decodeInstr_of_between 6 0 31 rfl (fun _ => rfl) rfl⟩
  · rw [step_eq, decodeHeader_of_err (decodeCode_of_invalid_class hclass _)]

end Sys2Proof.Machine

/-! PROOFS. The encode direction, `42_code_encode.md`: the code byte is the tag followed by the number, an encoded
header holds the fields of its header, and a code is determined by its tag, its number and its named bit. -/

namespace Sys2Proof.Machine

/-- The placement of a class and a wire detail in the code byte, R123. -/
theorem shiftLeft_or_zextDetail (c : BitVec 3) (d : BitVec 5) : (c.setWidth 8 <<< 5) ||| zextDetail d = c ++ d := by
  revert c d
  decide

/-- The placement of version, type and token length in byte 0, R124. -/
theorem shiftLeft_or_shiftLeft_or (v t : BitVec 2) (k : BitVec 4) :
    (v.setWidth 8 <<< 6) ||| (t.setWidth 8 <<< 4) ||| k.setWidth 8 = v ++ t ++ k := by
  revert v t k
  decide

/-- Bytes 2 and 3 as R124 takes them from the message id are its high and its low octet. -/
theorem shift_mask_octets_append (m : BitVec 16) : (m >>> 8).setWidth 8 ++ (m &&& 0x00FF#16).setWidth 8 = m := by
  apply BitVec.eq_of_toNat_eq
  have hlow : (m &&& 0x00FF#16).toNat = m.toNat % 256 :=
    (BitVec.toNat_and ..).trans (Nat.and_two_pow_sub_one_eq_mod _ 8)
  have hhigh : (m >>> 8).toNat = m.toNat / 256 :=
    (BitVec.toNat_ushiftRight ..).trans (Nat.shiftRight_eq_div_pow _ 8)
  have hlt := m.isLt
  rw [toNat_append_eq, BitVec.toNat_setWidth, BitVec.toNat_setWidth, hlow, hhigh]
  omega

/-- No valid number is above 31, so each is a detail that the wire can supply. -/
theorem exists_detail5_of_codeValid {q : RqCode} (valid : CodeValid q) :
    ∃ d : BitVec 5, detailNumber q = zextDetail d := by
  have hle : detailNumber q ≤ 31 := by
    have hpair := (validInClassOf_iff q _).mp valid
    unfold AcceptedPair at hpair
    bv_omega
  refine ⟨(detailNumber q).setWidth 5, BitVec.eq_of_toNat_eq ?_⟩
  rw [zextDetail, BitVec.toNat_setWidth, BitVec.toNat_setWidth]
  bv_omega

theorem codeByte_eq_append {q : RqCode} (valid : CodeValid q) {d : BitVec 5} (hd : detailNumber q = zextDetail d) :
    codeByte q valid = codeTag q ++ d := by
  rw [codeByte, hd, shiftLeft_or_zextDetail]

/-- The class and the detail are read back from the code byte of a valid code. -/
theorem ext_of_b1_eq_codeByte {q : RqCode} (valid : CodeValid q) {b : HeaderBytes} (h : b.b1 = codeByte q valid) :
    extClass b = codeTag q ∧ extDetail b = detailNumber q := by
  obtain ⟨d, hd⟩ := exists_detail5_of_codeValid valid
  rw [codeByte_eq_append valid hd] at h
  exact ⟨extClass_of_b1_eq_append h, by rw [extDetail, extDetail5_of_b1_eq_append h, hd]⟩

/-- A decoded code is valid, `44_construct.md` R138. -/
theorem codeValid_of_decodeCode {c : BitVec 3} {d : Byte} {q : RqCode} (h : decodeCode c d = .ok q) : CodeValid q := by
  obtain ⟨rfl, rfl⟩ := tag_number_of_decodeCode h
  exact (exists_decodeCode_iff q _).mp ⟨q, h⟩

/-- The free fields of a header as the wire carries them. -/
def Header.wireFields (h : Header) : HdrFields := ⟨h.version, typeNumber h.type, h.tokenLength, h.messageId⟩

theorem hdrFields_encodeHeader (h : Header) (valid : HeaderValid h) :
    hdrFields (encodeHeader h valid) = h.wireFields := by
  obtain ⟨hversion, htype, htkl⟩ := ext_of_b0_eq_append (b := encodeHeader h valid) (shiftLeft_or_shiftLeft_or ..)
  have hmid : extMid (encodeHeader h valid) = h.messageId := (extMid_eq_append _).trans (shift_mask_octets_append _)
  rw [hdrFields, hversion, htype, htkl, hmid, Header.wireFields]

/-- A header's bytes are determined by its free fields and its code byte. -/
theorem eq_of_hdrFields_eq_of_b1_eq {b b' : HeaderBytes} (hf : hdrFields b = hdrFields b') (hc : b.b1 = b'.b1) :
    b = b' := by
  obtain ⟨i, -, -, rfl⟩ := everyHeaderDecodesAndEncodesBack b
  exact encode_eq_of_fields ((hdrFields_encode i).symm.trans hf) hc

/-- The bytes of a decoded header carry its free fields. -/
theorem hdrFields_of_decodeHeader {b : HeaderBytes} {h : Header} (hb : decodeHeader b = .ok h) :
    hdrFields b = h.wireFields := by
  obtain ⟨type, htype, heq⟩ := decodeHeader_eq b
  obtain ⟨q, -, rfl⟩ := Decoded.map_eq_ok_iff.mp (heq.symm.trans hb)
  rw [hdrFields, htype, Header.wireFields]

/-- The bytes of a decoded header carry its code byte. -/
theorem codeByte_of_decodeHeader {b : HeaderBytes} {h : Header} (hb : decodeHeader b = .ok h) (valid : HeaderValid h) :
    codeByte h.code valid = b.b1 := by
  obtain ⟨htag, hnumber⟩ := tag_number_of_decodeCode (decodeCode_of_decodeHeader hb)
  rw [codeByte_eq_append valid hnumber, htag, ← b1_eq_append]

/-- The number of a named variant is a named value of its class. -/
theorem namedInClassOf_of_isNamedVariant {q : RqCode} (h : isNamedVariant q = true) :
    namedInClassOf q (detailNumber q) = true := by
  cases q with
  | method e | success e | clientError e | serverError e | signaling e =>
    cases e with
    | other v => cases h
    | _ => rfl

/-- A code is canonical when its named bit is what its number says, `44_construct.md` R137. -/
theorem isNamedVariant_of_codeCanonical {q : RqCode} (h : CodeCanonical q) :
    isNamedVariant q = namedInClassOf q (detailNumber q) := by
  rcases h with hvariant | hnumber
  · rw [hvariant, namedInClassOf_of_isNamedVariant hvariant]
  · rw [hnumber]
    exact Bool.eq_false_iff.mpr (mt namedInClassOf_of_isNamedVariant (Bool.eq_false_iff.mp hnumber))

/-- The tag, the number and the named bit determine a code, `10_state.md` R27. -/
theorem code_ext {q q' : RqCode} (htag : codeTag q = codeTag q') (hnumber : detailNumber q = detailNumber q')
    (hnamed : isNamedVariant q = isNamedVariant q') : q = q' := by
  have hread := codeOfPorts_of_code q
  rw [htag, hnumber, codeNamedPort, hnamed, ← codeNamedPort, codeOfPorts_of_code, Option.some_inj] at hread
  exact hread.symm

theorem namedInClassOf_congr {q q' : RqCode} (htag : codeTag q = codeTag q') (d : Byte) :
    namedInClassOf q d = namedInClassOf q' d := by
  rw [Bool.eq_iff_iff, namedInClassOf_iff, namedInClassOf_iff, htag]

/-- A valid and canonical code is the one that its own tag and number decode to. -/
theorem decodeCode_of_codeCanonical {q : RqCode} (valid : CodeValid q) (canonical : CodeCanonical q) :
    decodeCode (codeTag q) (detailNumber q) = .ok q := by
  obtain ⟨q', hq'⟩ := (exists_decodeCode_iff q _).mpr valid
  obtain ⟨htag, hnumber⟩ := tag_number_of_decodeCode hq'
  have hnamed : isNamedVariant q' = isNamedVariant q := by
    rw [isNamedVariant_of_decodeCode hq', namedInClassOf_congr htag, isNamedVariant_of_codeCanonical canonical]
  rw [hq', code_ext htag hnumber hnamed]

theorem decodeHeader_encodeHeader {h : Header} (valid : HeaderValid h) (canonical : HeaderCanonical h) :
    decodeHeader (encodeHeader h valid) = .ok h := by
  obtain ⟨hclass, hdetail⟩ := ext_of_b1_eq_codeByte valid (b := encodeHeader h valid) rfl
  have hcode : decodeCode (extClass (encodeHeader h valid)) (extDetail (encodeHeader h valid)) = .ok h.code := by
    rw [hclass, hdetail, decodeCode_of_codeCanonical valid canonical]
  obtain ⟨hversion, htype, htkl, hmid⟩ := HdrFields.mk.inj (hdrFields_encodeHeader h valid)
  rw [decodeHeader_of_ok htype hcode, hversion, htkl, hmid]

end Sys2Proof.Machine

/-! PROOFS. The statements on the encode direction, `42_code_encode.md`. -/

namespace Sys2Proof.Machine

/-- Settles O40: a decoded code keeps its pair, and a decoded header has the free fields and the code byte of its bytes,
which determine them. -/
theorem encodingADecodedHeaderGivesItsBytes : Obligations.EncodingADecodedHeaderGivesItsBytes := by
  unfold Obligations.EncodingADecodedHeaderGivesItsBytes
  refine ⟨fun c d q hq => ?_, fun b h hb => ?_⟩
  · have valid := codeValid_of_decodeCode hq
    obtain ⟨rfl, rfl⟩ := tag_number_of_decodeCode hq
    obtain ⟨hclass, hdetail⟩ := ext_of_b1_eq_codeByte valid (b := ⟨0, codeByte q valid, 0, 0⟩) rfl
    exact ⟨rfl, rfl, valid, rfl, by rw [hclass, hdetail, hq]⟩
  · have valid : HeaderValid h := codeValid_of_decodeCode (decodeCode_of_decodeHeader hb)
    exact ⟨valid, eq_of_hdrFields_eq_of_b1_eq
      ((hdrFields_encodeHeader h valid).trans (hdrFields_of_decodeHeader hb).symm) (codeByte_of_decodeHeader hb valid)⟩

/-- Settles O41: the fields are read back, a valid and canonical code is the one of its tag and number, and a step is
DECODE of the bytes presented. -/
theorem decodingAnEncodedCanonicalHeader : Obligations.DecodingAnEncodedCanonicalHeader := by
  unfold Obligations.DecodingAnEncodedCanonicalHeader
  intro h valid canonical
  have hdecode := decodeHeader_encodeHeader valid canonical
  refine ⟨hdecode, fun s => ⟨_, step_eq _, ?_⟩⟩
  rw [inputBytes_present, hdecode]

/-- Settles O38: the number of a valid code is a wire detail, so the code byte is the tag followed by it. -/
theorem codeByteIsTagThenNumber : Obligations.CodeByteIsTagThenNumber := by
  unfold Obligations.CodeByteIsTagThenNumber
  intro q valid
  obtain ⟨d, hd⟩ := exists_detail5_of_codeValid valid
  have hnumber : (detailNumber q).toNat = d.toNat := by rw [hd, zextDetail, BitVec.toNat_setWidth_of_le (by decide)]
  have hlt := d.isLt
  refine ⟨by omega, ?_, fun b => ext_of_b1_eq_codeByte valid⟩
  rw [codeByte_eq_append valid hd, toNat_append_eq]
  omega

/-- Settles O39: the extractions read every field back, and the bytes are the sums of the extracted fields by weight. -/
theorem encodedHeaderBytes : Obligations.EncodedHeaderBytes := by
  unfold Obligations.EncodedHeaderBytes
  intro h valid b
  obtain ⟨hversion, htype, htkl, hmid⟩ := HdrFields.mk.inj (hdrFields_encodeHeader h valid)
  have hb0 := b0_toNat b
  have hmidNat := extMid_toNat b
  have hlow := b.b3.isLt
  rw [hversion, htype, htkl] at hb0
  rw [hmid] at hmidNat
  exact ⟨hb0, rfl, by omega, by omega, hversion, htype, htkl, hmid⟩

/-- Settles O37: the numbers are the definitions' own, and the raw type of the wire is the number of the type that the
validator gives for it. -/
theorem encodeNumbersOfDetailsAndTypes : Obligations.EncodeNumbersOfDetailsAndTypes := by
  unfold Obligations.EncodeNumbersOfDetailsAndTypes
  refine ⟨rfl, rfl, rfl, rfl, rfl, rfl, rfl, rfl, rfl, rfl, rfl, fun _ => ⟨rfl, rfl, rfl, rfl, rfl⟩, rfl, rfl, rfl, rfl,
    msgTypeOfRaw_typeNumber, fun raw type h => ?_⟩
  obtain ⟨type', rfl⟩ := exists_typeNumber raw
  rw [msgTypeOfRaw_typeNumber] at h
  cases h
  rfl

end Sys2Proof.Machine

/-! PROOFS. The rendered text, `43_render.md`: what each reference function gives. -/

namespace Sys2Proof.Machine

/-- The lines in order, each followed by its line feed, `43_render.md` R132. -/
theorem renderHeader_eq (h : Header) : renderHeader h =
    "Version: " ++ decimal h.version.toNat ++ "\n" ++ "Type: " ++ typeName h.type ++ "\n" ++
    "Token length: " ++ decimal h.tokenLength.toNat ++ "\n" ++ "Code: " ++ renderCode h.code ++ "\n" ++
    "Message ID: " ++ decimal h.messageId.toNat ++ "\n" := by
  simp only [renderHeader, renderLines, List.foldr_cons, List.foldr_nil, String.append_empty, String.append_assoc]

/-- The one text of an `Other` variant in every class, after the class name, `43_render.md` R131. -/
theorem renderCode_of_other {q : RqCode} {v : Byte} (h : variantRepr q = otherRepr v) :
    renderCode q = className q ++ " " ++ "Other(" ++ decimal v.toNat ++ ")" := by
  simp only [renderCode, h, otherRepr, String.append_assoc]

/-- The last digit is split off by division, so no digit is padded. -/
theorem decimal_of_ten_le {n : Nat} (h : 10 ≤ n) : decimal n = decimal (n / 10) ++ decimal (n % 10) :=
  Nat.repr_eq_repr_append_repr h

end Sys2Proof.Machine

/-! PROOFS. The statement on the rendered text, `43_render.md`. -/

namespace Sys2Proof.Machine

/-- Settles O45: the lines in their order, the names by evaluation, `Other` by its class name, and the decimal digits by
division by ten. -/
theorem renderedTextOfAHeader : Obligations.RenderedTextOfAHeader := by
  unfold Obligations.RenderedTextOfAHeader
  refine ⟨renderHeader_eq, ⟨rfl, rfl, rfl, rfl⟩, by decide, fun v => ?_, by decide, fun n => decimal_of_ten_le⟩
  exact ⟨renderCode_of_other rfl, renderCode_of_other rfl, renderCode_of_other rfl, renderCode_of_other rfl,
    renderCode_of_other rfl⟩

end Sys2Proof.Machine

/-! PROOFS. Validity and canonicity, `44_construct.md`: what DECODE and a step return, and which codes are not valid. -/

namespace Sys2Proof.Machine

/-- All that a step which answers a next state can have done. -/
theorem step_next_inv {s t : State} (h : step s = .next t) :
    t.mem = s.mem ∧ t.result = some (decodeHeader s.inputBytes) := by
  cases (step_eq s).symm.trans h
  exact ⟨rfl, rfl⟩

/-- A decoded code is canonical, R138: a value that has a name is decoded to the variant of that name. -/
theorem codeCanonical_of_decodeCode {c : BitVec 3} {d : Byte} {q : RqCode} (h : decodeCode c d = .ok q) :
    CodeCanonical q := by
  obtain ⟨-, rfl⟩ := tag_number_of_decodeCode h
  cases hq : isNamedVariant q with
  | true => exact .inl hq
  | false => exact .inr ((isNamedVariant_of_decodeCode h).symm.trans hq)

theorem headerValid_canonical_of_decodeHeader {b : HeaderBytes} {h : Header} (hb : decodeHeader b = .ok h) :
    HeaderValid h ∧ HeaderCanonical h := by
  have hcode := decodeCode_of_decodeHeader hb
  exact ⟨codeValid_of_decodeCode hcode, codeCanonical_of_decodeCode hcode⟩

/-- The wire supplies five bits of detail, `30_encoding.md` R44. -/
theorem extDetail_le (b : HeaderBytes) : extDetail b ≤ 31 := by
  have heq := extDetail_toNat b
  bv_omega

/-- DECODE returns sound results only: the two outcomes of the code are the two kinds of sound result. -/
theorem soundResult_decodeHeader (b : HeaderBytes) : SoundResult (decodeHeader b) := by
  cases hcode : decodeCode (extClass b) (extDetail b) with
  | ok q =>
    obtain ⟨type, htype, -⟩ := decodeHeader_eq b
    have hb := decodeHeader_of_ok htype hcode
    rw [hb]
    exact headerValid_canonical_of_decodeHeader hb
  | err e =>
    rw [decodeHeader_of_err hcode]
    exact ⟨extDetail_le b, by rw [hcode, decodeCode_eq_err hcode]⟩

/-- The named values of a class are valid in it, R136. -/
theorem validInClassOf_of_namedInClassOf {q : RqCode} {d : Byte} (h : namedInClassOf q d = true) :
    validInClassOf q d = true := by
  cases q with
  | method _ | success _ | clientError _ | serverError _ | signaling _ => exact isValid_of_isNamed (by decide) h

/-- A named variant is always valid, R136. -/
theorem codeValid_of_isNamedVariant {q : RqCode} (h : isNamedVariant q = true) : CodeValid q :=
  validInClassOf_of_namedInClassOf (namedInClassOf_of_isNamedVariant h)

/-- The codes that are not valid: `Other` of a value outside the range of its class, R135 and R136. -/
theorem not_codeValid_iff (q : RqCode) : ¬ CodeValid q ↔ ∃ v : Byte,
    (q = .method (.other v) ∧ ¬ v ≤ 7) ∨ (q = .success (.other v) ∧ ¬ (v ≤ 5 ∨ v = 31)) ∨
    (q = .clientError (.other v) ∧ ¬ (v ≤ 9 ∨ v = 12 ∨ v = 13 ∨ v = 15)) ∨
    (q = .serverError (.other v) ∧ ¬ v ≤ 5) ∨ (q = .signaling (.other v) ∧ ¬ v ≤ 5) := by
  cases q with
  | method e | success e | clientError e | serverError e | signaling e =>
    cases e with
    | other v => exact (not_congr (isValid_iff (d := v))).trans (by simp [classTable])
    | _ => exact iff_of_false (not_not_intro (codeValid_of_isNamedVariant rfl)) (by simp)

end Sys2Proof.Machine

/-! PROOFS. The statements on construction, validity and canonicity, `44_construct.md`. -/

namespace Sys2Proof.Machine

/-- Settles O27: a step leaves the input buffer as it is, and its result is DECODE of the input, which is sound. -/
theorem stepKeepsTheInvariant : Obligations.StepKeepsTheInvariant := by
  unfold Obligations.StepKeepsTheInvariant
  rintro s t ⟨hwf, -⟩ h
  obtain ⟨hmem, hresult⟩ := step_next_inv h
  refine ⟨hmem ▸ hwf, fun r hr => ?_⟩
  cases hresult.symm.trans hr
  exact soundResult_decodeHeader s.inputBytes

/-- Settles O42: the number is valid, so it is decoded, and to a canonical code, which the code started from is not. -/
theorem nonCanonicalCodeComesBackNamed : Obligations.NonCanonicalCodeComesBackNamed := by
  unfold Obligations.NonCanonicalCodeComesBackNamed
  intro q valid hnot
  obtain ⟨q', hq'⟩ := (exists_decodeCode_iff q _).mpr valid
  obtain ⟨htag, hnumber⟩ := tag_number_of_decodeCode hq'
  have hnamed : namedInClassOf q (detailNumber q) = true := Bool.eq_true_of_not_eq_false fun h => hnot (.inr h)
  refine ⟨q', hq', ?_, ?_, codeValid_of_decodeCode hq', ?_⟩
  · rw [isNamedVariant_of_decodeCode hq', namedInClassOf_congr htag, hnamed]
  · rintro rfl
    exact hnot (codeCanonical_of_decodeCode hq')
  · rw [codeByte, codeByte, htag, hnumber]

/-- Settles O43: the header is its operands by definition, so it is invalid exactly when its code is. -/
theorem constructChecksNothing : Obligations.ConstructChecksNothing := by
  unfold Obligations.ConstructChecksNothing
  exact ⟨fun _ _ _ code _ => ⟨rfl, not_codeValid_iff code⟩, rfl⟩

/-- Settles O44: the header is DECODE of the input, whose code keeps the raw class and detail. -/
theorem decodedHeadersAreValidAndCanonical : Obligations.DecodedHeadersAreValidAndCanonical := by
  unfold Obligations.DecodedHeadersAreValidAndCanonical
  intro s t h hstep hresult
  obtain ⟨-, hdecode⟩ := step_next_inv hstep
  have hb : decodeHeader s.inputBytes = .ok h := Option.some.inj (hdecode.symm.trans hresult)
  obtain ⟨valid, canonical⟩ := headerValid_canonical_of_decodeHeader hb
  exact ⟨valid, canonical, tag_number_of_decodeCode (decodeCode_of_decodeHeader hb)⟩

end Sys2Proof.Machine

/-! PROOFS. What an error of DECODE says of the header, `60_exceptions.md` R141 and R142. -/

namespace Sys2Proof.Machine

/-- The only errors of DECODE are those of the code: the raw class and detail, which the class table rejects. -/
theorem decodeHeader_eq_err {b : HeaderBytes} {e : DecodeError} (h : decodeHeader b = .err e) :
    e = .invalidCode (extClass b) (extDetail b) ∧ decodeCode (extClass b) (extDetail b) = .err e := by
  obtain ⟨type, -, heq⟩ := decodeHeader_eq b
  have hcode : decodeCode (extClass b) (extDetail b) = .err e := Decoded.map_eq_err_iff.mp (heq.symm.trans h)
  exact ⟨decodeCode_eq_err hcode, hcode⟩

/-- The code byte is rebuilt from the raw class and the 8 bits that carry the raw detail, R142. -/
theorem b1_eq_shiftLeft_or_extDetail (b : HeaderBytes) : b.b1 = ((extClass b).setWidth 8 <<< 5) ||| extDetail b :=
  (b1_eq_append b).trans (shiftLeft_or_zextDetail _ _).symm

end Sys2Proof.Machine

/-! PROOFS. The statement on the errors, `60_exceptions.md`. -/

namespace Sys2Proof.Machine

/-- Settles O32: the result is DECODE of the input, whose errors are those of the raw class and detail. -/
theorem errorCarriesTheWholeCodeByte : Obligations.ErrorCarriesTheWholeCodeByte := by
  unfold Obligations.ErrorCarriesTheWholeCodeByte
  intro s t e hstep hresult
  obtain ⟨-, hdecode⟩ := step_next_inv hstep
  have hb : decodeHeader s.inputBytes = .err e := Option.some.inj (hdecode.symm.trans hresult)
  obtain ⟨rfl, hcode⟩ := decodeHeader_eq_err hb
  exact ⟨_, _, rfl, rfl, rfl, extDetail_le _, b1_eq_shiftLeft_or_extDetail _, hcode⟩

end Sys2Proof.Machine

/-! PROOFS. The invariant at reset and under a presentation: the base case of what `stepKeepsTheInvariant` carries on. -/

namespace Sys2Proof.Machine

/-- No evaluation has returned at reset, so no result has to be sound. -/
theorem inv_reset : Inv State.reset :=
  ⟨reset_mem_wf, fun r hr => by simp at hr⟩

/-- A presentation replaces the buffer by a canonical one and leaves the result of the evaluation before. -/
theorem inv_present {s : State} (h : Inv s) (b : HeaderBytes) : Inv (s.present b) := by
  obtain ⟨-, hsound⟩ := h
  exact ⟨ofBytes_wf b, hsound⟩

end Sys2Proof.Machine

/-! PROOFS. The statements on reset and the first presentation, `70_reset_and_hazards.md`. -/

namespace Sys2Proof.Machine

/-- Settles O28: reset and every presentation meet the invariant, and what is presented is what is read. -/
theorem invariantAtResetAndAfterPresentation : Obligations.InvariantAtResetAndAfterPresentation := by
  unfold Obligations.InvariantAtResetAndAfterPresentation
  exact ⟨inv_reset, fun s b h => ⟨inv_present h b, inputBytes_present s b⟩⟩

/-- Settles O47: the first evaluation is as any other, DECODE of the header presented, whatever the state before it. -/
theorem resetNeedsNothingInitialised : Obligations.ResetNeedsNothingInitialised := by
  unfold Obligations.ResetNeedsNothingInitialised
  exact ⟨reset_mem, reset_result, fun b => ⟨_, evaluate_eq b State.reset, rfl⟩⟩

end Sys2Proof.Machine

/-! PROOFS. The statement on the sample words, `95_test_vectors.md` section 2.5: a word laid out as the encoding of a
well-formed instruction decodes to it. -/

namespace Sys2Proof

/-- The table's reading of a word whose bytes are an encoding, by the round trip of `decodeOfEncodeIsTheInstruction`. -/
theorem decodeTableWord_eq_some_of_encode {nbits w : Nat} {i : Instr} (hwf : WellFormed i)
    (hw : tableBytes nbits w = encode i) : decodeTableWord nbits w = some i := by
  have hi : decodeInstr (tableBytes nbits w) = .ok i := hw ▸ Machine.decodeOfEncodeIsTheInstruction i hwf
  unfold decodeTableWord
  rw [hi]

end Sys2Proof

namespace Sys2Proof.Machine

/-- Settles O2: each of the seven words is the encoding of its well-formed instruction, so the round trip decodes it. -/
theorem sampleWordsDecodeToTheirRows : Obligations.SampleWordsDecodeToTheirRows := by
  unfold Obligations.SampleWordsDecodeToTheirRows
  refine ⟨?_, ?_, ?_, ?_, ?_, ?_, ?_⟩ <;> exact decodeTableWord_eq_some_of_encode (by decide) (by decide)

end Sys2Proof.Machine
